-- ==== Sys2Proof/Word.lean ====
section
/-! DEFINITION. The two word types of the core: bytes and 16-bit words (spec R6, R7). -/

namespace Sys2Proof

/-- An 8-bit quantity: a register, a memory cell, an opcode byte (R6, R7). -/
abbrev Byte := BitVec 8

/-- A 16-bit quantity: a register pair, SP, PC, an address of the memory port (R6, R7). -/
abbrev Word := BitVec 16

end Sys2Proof
end

