-- ==== Sys2Proof/Machine/Bits.lean ====
section
/-! DEFINITION. Bit fields, byte order, sign extension and the explicit narrowing of spec R7 and R8. -/

namespace Sys2Proof.Machine

/-- `hi:lo`, that is `hi*256 + lo` (R7). -/
def word (hi lo : Byte) : Word := hi ++ lo

/-- `v[15:8]` (R7). -/
def hiByte (v : Word) : Byte := v.extractLsb' 8 8

/-- `v[7:0]` (R7). -/
def loByte (v : Word) : Byte := v.extractLsb' 0 8

/-- A value reduced mod 256, the non-negative residue for a negative one (R8, R29). -/
def wrap8 (v : Int) : Byte := BitVec.ofInt 8 v

/-- A value reduced mod 65536 (R8, R29). -/
def wrap16 (v : Int) : Word := BitVec.ofInt 16 v

/-- `signed8(e)` (R8). -/
def signed8 (e : Byte) : Int := if e.toNat < 128 then (e.toNat : Int) else (e.toNat : Int) - 256

/-- `sext_16(e)` as an integer 0 to 65535 (R8). -/
def sext16 (e : Byte) : Nat := if e.toNat < 128 then e.toNat else e.toNat + 65280

/-- A flag used as a number (R8). -/
def bit (b : Bool) : Nat := if b then 1 else 0

/-- `op[7:6]` (R106, R390). -/
def fieldX (op : Byte) : Nat := op.toNat / 64

/-- `op[5:3]` (R106, R390). -/
def fieldY (op : Byte) : Nat := op.toNat / 8 % 8

/-- `op[2:0]` (R106, R390). -/
def fieldZ (op : Byte) : Nat := op.toNat % 8

end Sys2Proof.Machine
end

