-- ==== Sys2Proof/Machine/Names.lean ====
section
/-! DEFINITION. The names an operand field of an instruction selects: registers, pairs, conditions,
operations, bit numbers, restart targets (spec R9, R106, R208, R330, R341, R390). -/

namespace Sys2Proof

/-- The seven 8-bit registers (R21). -/
inductive Reg where
  | B | C | D | E | H | L | A
  deriving DecidableEq, Repr

/-- The operand table `r` of R106: a register, or the memory byte at address HL. -/
inductive Operand where
  | reg (r : Reg)
  | indHL
  deriving DecidableEq, Repr

/-- The pair table `rp` of R106. -/
inductive Pair where
  | BC | DE | HL | SP
  deriving DecidableEq, Repr

/-- The pair table `rp2` of R106 (PUSH, POP). -/
inductive StackPair where
  | BC | DE | HL | AF
  deriving DecidableEq, Repr

/-- The conditions of R330. -/
inductive Cond where
  | NZ | Z | NC | C
  deriving DecidableEq, Repr

/-- The accumulator operations of R106. -/
inductive AluOp where
  | add | adc | sub | sbc | and | xor | or | cp
  deriving DecidableEq, Repr

/-- The four rotates the accumulator forms RLCA, RRCA, RLA, RRA share with the CB table (R155). -/
inductive RotOp where
  | rlc | rrc | rl | rr
  deriving DecidableEq, Repr

/-- The rotates and shifts of the CB table (R390). -/
inductive ShiftOp where
  | rot (op : RotOp)
  | sla | sra | swap | srl
  deriving DecidableEq, Repr

/-- A bit number 0 to 7 (R390). -/
inductive BitNo where
  | b0 | b1 | b2 | b3 | b4 | b5 | b6 | b7
  deriving DecidableEq, Repr

/-- The eight restart targets (R341). -/
inductive RstTarget where
  | t00 | t08 | t10 | t18 | t20 | t28 | t30 | t38
  deriving DecidableEq, Repr

/-- The memory operand forms of R208 through which only A is loaded or stored: (BC), (DE), (nn),
(HL+), (HL-), (0xFF00+n), (0xFF00+C). -/
inductive AddrForm where
  | indBC
  | indDE
  | indNN (nn : Word)
  | indHLI
  | indHLD
  | highN (n : Byte)
  | highC
  deriving DecidableEq, Repr

/-- A memory form of R208 without its immediate: what tells the handlers apart (R480). -/
inductive AddrKind where
  | indBC | indDE | indNN | indHLI | indHLD | highN | highC
  deriving DecidableEq, Repr

/-- The kind of a memory form. -/
def AddrForm.kind : AddrForm → AddrKind
  | .indBC => .indBC
  | .indDE => .indDE
  | .indNN _ => .indNN
  | .indHLI => .indHLI
  | .indHLD => .indHLD
  | .highN _ => .highN
  | .highC => .highC

end Sys2Proof
end

