-- ==== Sys2Proof/Config.lean ====
section
/-! DEFINITION. The model parameters of spec R6: what the spec takes as an argument of the model.
They are plain data, carried in `State.params` and never changed by a step (assumption 1). -/

namespace Sys2Proof

/-- PROFILE (R5): `core` admits only tier T1, `full` admits both tiers. -/
inductive Profile where
  | core
  | full
  deriving DecidableEq, Repr

/-- CB_EXT (R6, R373): whether the CB-prefixed sub-table is executed. -/
inductive CbExt where
  | refuse
  | table
  deriving DecidableEq, Repr

/-- SPDISP_FLAGS (R303): which flag rule ADD SP,e and LD HL,SP+e follow. -/
inductive SpDispFlags where
  | canonical
  | docLiteral
  deriving DecidableEq, Repr

/-- IRQ (R440): whether the core samples interrupt requests. -/
inductive IrqMode where
  | none
  | canonical
  deriving DecidableEq, Repr

/-- HALT_BUG (R369). -/
inductive HaltBugMode where
  | refuse
  | canonical
  deriving DecidableEq, Repr

/-- STOP_MODE (R370). -/
inductive StopMode where
  | refuse
  | stopped
  deriving DecidableEq, Repr

/-- The policies of R65 (a) to (d). `mirror target` makes the region's first address show the cell at
`target`, and the following addresses the following cells. `external` is a region whose reads and writes
are the collaborator's own (bank-switched, I/O): `Config.externalRead` and `Config.externalWrite` answer
there. One external region over the whole space makes MEM wholly theirs (R66; assumptions 4, 17). -/
inductive RegionPolicy where
  | normal
  | readOnly
  | mirror (target : Word)
  | external
  deriving DecidableEq, Repr

/-- One region of the address space: the addresses `base`, …, `base + size - 1` (R60, R65). -/
structure Region where
  base   : Nat
  size   : Nat
  policy : RegionPolicy
  deriving DecidableEq, Repr

/-- What CYCLES maps to a count (R480): an instruction form, and for a conditional transfer whether it is
taken. R6 has every handler report its own count, so a form is a handler: the operands that the opcode bytes
select are arguments, the immediate ones are not. Interrupt entry and the idle steps report a count too. -/
inductive CycleForm where
  | nop
  | ldRegReg (d r : Reg)
  | ldRegImm (d : Reg)
  | ldRegIndHL (d : Reg)
  | ldIndHLReg (r : Reg)
  | ldIndHLImm
  | ldPairImm (p : Pair)
  | loadA (k : AddrKind)
  | storeA (k : AddrKind)
  | ldIndNNSP
  | ldSPHL
  | inc (x : Operand)
  | dec (x : Operand)
  | incPair (p : Pair)
  | decPair (p : Pair)
  | alu (op : AluOp) (x : Operand)
  | aluImm (op : AluOp)
  | addHL (p : Pair)
  | addSP
  | ldHLSP
  | push (q : StackPair)
  | pop (q : StackPair)
  | jp
  | jpCond (cc : Cond) (taken : Bool)
  | jpHL
  | jr
  | jrCond (cc : Cond) (taken : Bool)
  | call
  | callCond (cc : Cond) (taken : Bool)
  | ret
  | retCond (cc : Cond) (taken : Bool)
  | reti
  | rst (t : RstTarget)
  | accRot (op : RotOp)
  | daa
  | cpl
  | scf
  | ccf
  | halt
  | stop
  | di
  | ei
  | shift (op : ShiftOp) (x : Operand)
  | bit (b : BitNo) (x : Operand)
  | res (b : BitNo) (x : Operand)
  | set (b : BitNo) (x : Operand)
  | interruptEntry
  | idleHalted
  | idleStopped
  deriving DecidableEq, Repr

/-- The parameters of R6 that a step consults. -/
structure Params where
  profile : Profile
  cbExt   : CbExt
  spDisp  : SpDispFlags
  irq     : IrqMode
  haltBug : HaltBugMode
  stop    : StopMode
  /-- the part of MEM that says which policy an address has; the empty list is FlatRAM (R64, R66; assumption 4) -/
  regions : List Region
  /-- CYCLES: the forms whose count is not the one of R480's default table, each with its count; of two entries
  for a form the first counts. Every map from forms to counts is such a list (assumption 8). -/
  cycles  : List (CycleForm × Nat)
  deriving DecidableEq, Repr

/-- The parameter MEM's `read : Mem -> Addr -> (Byte, Mem)` in an external region (R66). No body: the
document leaves what it answers to the collaborator, and a claim holds for every answer (assumption 17). -/
opaque Config.externalRead : Nat → Word → Byte × Nat

/-- The parameter MEM's `write : Mem -> Addr -> Byte -> Mem` in an external region (R66; assumption 17). -/
opaque Config.externalWrite : Nat → Word → Byte → Nat

/-- INIT (R471): one power-on value for each register and flag of R20. -/
structure Init where
  a : Byte
  b : Byte
  c : Byte
  d : Byte
  e : Byte
  h : Byte
  l : Byte
  flagZ : Bool
  flagN : Bool
  flagH : Bool
  flagC : Bool
  sp : Word
  pc : Word
  deriving DecidableEq, Repr

end Sys2Proof
end

