-- ==== Sys2Proof/Machine/Defaults.lean ====
section
/-! DEFINITION. The default values of the parameters: the INIT of spec R471, the CYCLES table of spec
R480, and the parameter values the model's reset state uses (assumptions 2, 3, 8). -/

namespace Sys2Proof.Machine

/-- The default INIT of R471. Only A = 0x01 is the document's; the rest is the spec's default
(DESIGN CHOICE to take it, assumption 3). -/
def defaultInit : Init where
  a := 0x01
  b := 0x00
  c := 0x13
  d := 0x00
  e := 0xD8
  h := 0x01
  l := 0x4D
  flagZ := true
  flagN := false
  flagH := true
  flagC := true
  sp := 0xFFFE
  pc := 0x0100

/-- The default CYCLES table of R480, in clock cycles (assumption 8). -/
def defaultCount : CycleForm → Nat
  | .nop => 4
  | .ldRegReg _ _ => 4
  | .ldRegImm _ => 8
  | .ldRegIndHL _ | .ldIndHLReg _ => 8
  | .ldIndHLImm => 12
  | .ldPairImm _ => 12
  | .loadA k | .storeA k =>
    match k with
    | .indBC | .indDE => 8
    | .indNN => 16
    | .indHLI | .indHLD => 8
    | .highN => 12
    | .highC => 8
  | .ldIndNNSP => 20
  | .ldSPHL => 8
  | .inc (.reg _) | .dec (.reg _) => 4
  | .inc .indHL | .dec .indHL => 12
  | .incPair _ | .decPair _ => 8
  | .alu _ (.reg _) => 4
  | .alu _ .indHL => 8
  | .aluImm _ => 8
  | .addHL _ => 8
  | .addSP => 16
  | .ldHLSP => 12
  | .push _ => 16
  | .pop _ => 12
  | .jp => 16
  | .jpCond _ taken => if taken then 16 else 12
  | .jpHL => 4
  | .jr => 12
  | .jrCond _ taken => if taken then 12 else 8
  | .call => 24
  | .callCond _ taken => if taken then 24 else 12
  | .ret => 16
  | .retCond _ taken => if taken then 20 else 8
  | .reti => 16
  | .rst _ => 16
  | .accRot _ | .daa | .cpl | .scf | .ccf => 4
  | .halt | .stop | .di | .ei => 4
  | .shift _ (.reg _) | .bit _ (.reg _) | .res _ (.reg _) | .set _ (.reg _) => 8
  | .shift _ .indHL | .res _ .indHL | .set _ .indHL => 16
  | .bit _ .indHL => 12
  | .interruptEntry => 20
  | .idleHalted | .idleStopped => 4

/-- The count a list of differences from the default table gives a form (R480). -/
def countIn : List (CycleForm × Nat) → CycleForm → Nat
  | [], f => defaultCount f
  | (g, n) :: rest, f => if g = f then n else countIn rest f

/-- The parameters of the reset state: every setting is the one under which the spec gives the
instruction an effect (DESIGN CHOICE, assumption 2), and the memory is FlatRAM (R66). -/
def defaultParams : Params where
  profile := .full
  cbExt := .table
  spDisp := .canonical
  irq := .canonical
  haltBug := .canonical
  stop := .stopped
  regions := []
  cycles := []

end Sys2Proof.Machine
end

