-- ==== Sys2Proof/Machine/State.lean ====
section
/-! DEFINITION. The state of the machine as plain data, the reasons a step can stop, and the state after
reset (spec R13, R14, R20, R40, R66, R470 to R474). -/

namespace Sys2Proof.Machine

/-- The seven general registers (R20, R21). -/
structure Regs where
  a : Byte
  b : Byte
  c : Byte
  d : Byte
  e : Byte
  h : Byte
  l : Byte
  deriving DecidableEq, Repr

/-- The four flags Zero, Subtract, HalfCarry, Carry (R20, R34). -/
structure Flags where
  z : Bool
  n : Bool
  h : Bool
  c : Bool
  deriving DecidableEq, Repr

/-- One transaction on the Memory Interface (R61, R62). -/
inductive BusAccess where
  | read (address : Word) (value : Byte)
  | write (address : Word) (value : Byte)
  deriving DecidableEq, Repr

/-- The register file, the FULL-profile bits, the memory behind the port and the model parameters.
`fetchedAt`, `cycles` and `bus` are the model's own: the `at` of the last opcode fetch and the two
outputs of the last step (assumptions 8, 9, 10). -/
structure State where
  /-- A, B, C, D, E, H, L (R20) -/
  regs : Regs
  /-- Z, N, H, C (R20) -/
  flags : Flags
  /-- the stack pointer (R24) -/
  sp : Word
  /-- the program counter (R25, R30) -/
  pc : Word
  /-- interrupt master enable (R40) -/
  ime : Bool
  /-- an EI whose effect is still to come (R40) -/
  eiDelay : Bool
  /-- the HALT state (R40) -/
  halted : Bool
  /-- the STOP state (R40) -/
  stopped : Bool
  /-- the next opcode fetch does not advance pc (R40, R369) -/
  haltBug : Bool
  /-- the 65536 byte cells: the listed ones, by rising address (R60, R66; assumption 6) -/
  mem : List Host.Cell
  /-- the collaborator's part of `Mem`, behind the external regions (R64, R66; assumption 17) -/
  device : Nat
  /-- the model parameters (R6; assumption 1) -/
  params : Params
  /-- `at` of the last opcode fetch (R101; assumption 10) -/
  fetchedAt : Word
  /-- the cycle count the last step reported (R14, R480; assumption 8) -/
  cycles : Nat
  /-- the accesses the last step made, in order (R61, R76; assumption 9) -/
  bus : List BusAccess
  deriving DecidableEq, Repr

/-- Why the machine stops. -/
inductive Fault where
  /-- UndefinedOpcode(op, at, state'): raised by the meaning of UNDEFINED and by nothing else (R374, R420,
  R422). Safe: it is the outcome the spec states, and no later step is defined. -/
  | undefinedOpcode (op : Byte) (address : Word) (after : State)
  deriving DecidableEq, Repr

/-- Why the model has no meaning for what the program did (R14, R425). All are safe: the model stops
where the hardware goes on. -/
inductive Refusal where
  /-- raised by an arm of `exec` that has no meaning yet; no arm is left so -/
  | notModelled (mnemonic : String)
  /-- NotSpecifiedBySource: raised by the profile gate under PROFILE = CORE (R103) -/
  | notSpecifiedBySource (op : Byte)
  /-- CbExtensionExternal: raised by PREFIX CB under CB_EXT = refuse (R373) -/
  | cbExtensionExternal (op : Byte)
  /-- StopNotModelled: raised by STOP under STOP_MODE = refuse (R370) -/
  | stopNotModelled (op : Byte)
  /-- HaltBugNotModelled: raised by HALT in the HALT-bug situation under HALT_BUG = refuse (R369) -/
  | haltBugNotModelled (op : Byte)
  deriving DecidableEq, Repr

/-- The outcome of a step or of a handler (R14). -/
abbrev Result := Host.Outcome State Fault Refusal

/-- The state the initialization collaborator constructs from INIT, before the first step, over the `Mem` the
memory collaborator hands over: the image it has loaded and its own part (R470 to R473, R475). -/
def State.powerOn (init : Init) (params : Params) (image : List Host.Cell) (device : Nat) : State where
  regs :=
    { a := init.a, b := init.b, c := init.c, d := init.d, e := init.e, h := init.h, l := init.l }
  flags := { z := init.flagZ, n := init.flagN, h := init.flagH, c := init.flagC }
  sp := init.sp
  pc := init.pc
  ime := false
  eiDelay := false
  halted := false
  stopped := false
  haltBug := false
  mem := image
  device := device
  params := params
  fetchedAt := init.pc
  cycles := 0
  bus := []

/-- The machine right after reset: the default INIT of R471, the bits of R472, memory with nothing listed
(assumptions 2, 3, 6, 17). -/
def State.reset : State := State.powerOn defaultInit defaultParams [] 0

end Sys2Proof.Machine
end

