-- ==== Sys2Proof/Machine/Flags.lean ====
section
/-! DEFINITION. The flag and ALU functions (spec R140 to R158): pure, computed in the unbounded integers and
narrowed at the end. A function whose rule leaves a flag unchanged takes the flags before it. -/

namespace Sys2Proof.Machine

/-- `add8(a, b, cin)` (R141). -/
def add8 (a b : Byte) (cin : Bool) : Byte × Flags :=
  let s := a.toNat + b.toNat + bit cin
  let r := wrap8 s
  (r, { z := r == 0, n := false,
        h := decide (a.toNat % 16 + b.toNat % 16 + bit cin > 15), c := decide (s > 255) })

/-- `sub8(a, b, cin)` (R142). -/
def sub8 (a b : Byte) (cin : Bool) : Byte × Flags :=
  let d : Int := a.toNat - b.toNat - bit cin
  let r := wrap8 d
  (r, { z := r == 0, n := true,
        h := decide (((a.toNat % 16 : Nat) : Int) - (b.toNat % 16 : Nat) - bit cin < 0),
        c := decide (d < 0) })

/-- `inc8(a)`; C unchanged (R143). -/
def inc8 (a : Byte) (f : Flags) : Byte × Flags :=
  let r := wrap8 (a.toNat + 1)
  (r, { z := r == 0, n := false, h := a.toNat % 16 == 15, c := f.c })

/-- `dec8(a)`; C unchanged (R144). -/
def dec8 (a : Byte) (f : Flags) : Byte × Flags :=
  let r := wrap8 (a.toNat - 1)
  (r, { z := r == 0, n := true, h := a.toNat % 16 == 0, c := f.c })

/-- `add16(a, b)`; Z unchanged (R145). -/
def add16 (a b : Word) (f : Flags) : Word × Flags :=
  let s := a.toNat + b.toNat
  (wrap16 s, { z := f.z, n := false,
               h := decide (a.toNat % 4096 + b.toNat % 4096 > 0x0FFF), c := decide (s > 0xFFFF) })

/-- `inc16(a)` (R146). -/
def inc16 (a : Word) : Word := wrap16 (a.toNat + 1)

/-- `dec16(a)` (R146). -/
def dec16 (a : Word) : Word := wrap16 (a.toNat - 1)

/-- `and8(a, b)` (R151). -/
def and8 (a b : Byte) : Byte × Flags :=
  (a &&& b, { z := (a &&& b) == 0, n := false, h := true, c := false })

/-- `xor8(a, b)` (R152). -/
def xor8 (a b : Byte) : Byte × Flags :=
  (a ^^^ b, { z := (a ^^^ b) == 0, n := false, h := false, c := false })

/-- `or8(a, b)` (R152). -/
def or8 (a b : Byte) : Byte × Flags :=
  (a ||| b, { z := (a ||| b) == 0, n := false, h := false, c := false })

/-- `cp8(a, b)`: the flags of `sub8(a, b, 0)` and no result (R153). -/
def cp8 (a b : Byte) : Flags := (sub8 a b false).2

/-- What an accumulator operation leaves in A and in the flags (R106, R141, R142, R151 to R153). CP leaves A. -/
def aluResult (op : AluOp) (a b : Byte) (f : Flags) : Byte × Flags :=
  match op with
  | .add => add8 a b false
  | .adc => add8 a b f.c
  | .sub => sub8 a b false
  | .sbc => sub8 a b f.c
  | .and => and8 a b
  | .xor => xor8 a b
  | .or => or8 a b
  | .cp => (a, cp8 a b)

/-- The flags of `addsp(s, e)`, canonical variant (R154). -/
def addspCanonical (s : Word) (e : Byte) : Flags where
  z := false
  n := false
  h := decide (s.toNat % 16 + e.toNat % 16 > 15)
  c := decide (s.toNat % 256 + e.toNat > 255)

/-- The flags of `addsp(s, e)`, doc_literal variant; Z unchanged (R154). -/
def addspDocLiteral (s : Word) (e : Byte) (f : Flags) : Flags where
  z := f.z
  n := false
  h := decide (s.toNat % 4096 + sext16 e % 4096 > 0x0FFF)
  c := decide (s.toNat + sext16 e > 0xFFFF)

/-- `addsp(s, e)` under the parameter SPDISP_FLAGS (R154, R303). -/
def addsp (mode : SpDispFlags) (s : Word) (e : Byte) (f : Flags) : Word × Flags :=
  (wrap16 (s.toNat + signed8 e),
   match mode with
   | .canonical => addspCanonical s e
   | .docLiteral => addspDocLiteral s e f)

/-- The four rotates: the result and the bit shifted out, `cin` the incoming carry (R155). -/
def rotate (op : RotOp) (a : Byte) (cin : Bool) : Byte × Bool :=
  match op with
  | .rlc => (wrap8 (a.toNat * 2 % 256 + bit (a.getLsbD 7) : Nat), a.getLsbD 7)
  | .rrc => (wrap8 (a.toNat / 2 + bit (a.getLsbD 0) * 128 : Nat), a.getLsbD 0)
  | .rl => (wrap8 (a.toNat * 2 % 256 + bit cin : Nat), a.getLsbD 7)
  | .rr => (wrap8 (a.toNat / 2 + bit cin * 128 : Nat), a.getLsbD 0)

/-- The result of a CB-table rotate or shift and the carry out (R155). -/
def shiftValue (op : ShiftOp) (a : Byte) (cin : Bool) : Byte × Bool :=
  match op with
  | .rot k => rotate k a cin
  | .sla => (wrap8 (a.toNat * 2 : Nat), a.getLsbD 7)
  | .sra => (wrap8 (a.toNat / 2 + bit (a.getLsbD 7) * 128 : Nat), a.getLsbD 0)
  | .swap => (wrap8 (a.toNat % 16 * 16 + a.toNat / 16 : Nat), false)
  | .srl => (wrap8 (a.toNat / 2 : Nat), a.getLsbD 0)

/-- A CB-table rotate or shift with its flags: Z computed, N and H cleared, C the bit out (R155, R391 to R406). -/
def shift8 (op : ShiftOp) (a : Byte) (cin : Bool) : Byte × Flags :=
  let v := shiftValue op a cin
  (v.1, { z := v.1 == 0, n := false, h := false, c := v.2 })

/-- An accumulator rotate with its flags: Z forced to 0 (R155, R360 to R363). -/
def rotateA (op : RotOp) (a : Byte) (cin : Bool) : Byte × Flags :=
  let v := rotate op a cin
  (v.1, { z := false, n := false, h := false, c := v.2 })

/-- The bit number as a number (R390). -/
def bitIndex : BitNo → Nat
  | .b0 => 0
  | .b1 => 1
  | .b2 => 2
  | .b3 => 3
  | .b4 => 4
  | .b5 => 5
  | .b6 => 6
  | .b7 => 7

/-- `bit8(b, a)`: the flags; C unchanged (R156). -/
def bit8 (b : BitNo) (a : Byte) (f : Flags) : Flags where
  z := !a.getLsbD (bitIndex b)
  n := false
  h := true
  c := f.c

/-- `res8(b, a)` (R156). -/
def res8 (b : BitNo) (a : Byte) : Byte := a &&& wrap8 (255 - (2 ^ bitIndex b : Nat))

/-- `set8(b, a)` (R156). -/
def set8 (b : BitNo) (a : Byte) : Byte := a ||| wrap8 (2 ^ bitIndex b : Nat)

/-- `daa(a, n, h, c)`; N unchanged (R157). -/
def daa (a : Byte) (f : Flags) : Byte × Flags :=
  if f.n then
    let adj := (if f.h then 0x06 else 0) + (if f.c then 0x60 else 0)
    let r := wrap8 ((a.toNat : Int) - (adj : Nat))
    (r, { z := r == 0, n := f.n, h := false, c := f.c })
  else
    let low : Bool := f.h || decide (a.toNat % 16 > 9)
    let high : Bool := f.c || decide (a.toNat > 0x99)
    let adj := (if low then 0x06 else 0) + (if high then 0x60 else 0)
    let r := wrap8 (a.toNat + adj : Nat)
    (r, { z := r == 0, n := f.n, h := false, c := high })

/-- Whether a condition holds (R330). -/
def Flags.holds (f : Flags) : Cond → Bool
  | .NZ => !f.z
  | .Z => f.z
  | .NC => !f.c
  | .C => f.c

end Sys2Proof.Machine
end

