-- ==== Sys2Proof/Machine/Ops.lean ====
section
/-! DEFINITION. The named operations over memory, registers and the stack, the two things that happen
instead of an instruction (the exception UndefinedOpcode, interrupt entry) and the return from an
interrupt (spec R9 to R13, R23 to R29, R60 to R72, R310, R311, R340, R374, R422, R441, R442). -/

namespace Sys2Proof.Machine

/-! ## Memory cells -/

/-- What a cell no entry lists reads as (R473 leaves it to the collaborator; DESIGN CHOICE, assumption 6). -/
def Memory.unlisted : Byte := 0x00

/-- The byte of the cell at address `a`. -/
def Memory.read : List Host.Cell → Nat → Byte
  | [], _ => Memory.unlisted
  | (k, x) :: m, a => if k = a then x else Memory.read m a

/-- The memory with cell `a` holding `v`, in canonical form. -/
def Memory.write : List Host.Cell → Nat → Byte → List Host.Cell
  | [], a, v => if v = Memory.unlisted then [] else [(a, v)]
  | (k, x) :: m, a, v =>
    if k < a then (k, x) :: Memory.write m a v
    else if k = a then (if v = Memory.unlisted then m else (a, v) :: m)
    else if v = Memory.unlisted then (k, x) :: m
    else (a, v) :: (k, x) :: m

/-- The entries' addresses rise strictly, are at least `lo` and below 65536, and no entry holds what an
unlisted cell reads as. -/
def Memory.wfFrom : Nat → List Host.Cell → Bool
  | _, [] => true
  | lo, (k, x) :: m => lo ≤ k && k < 65536 && x != Memory.unlisted && Memory.wfFrom (k + 1) m

/-- The canonical form of a memory. -/
def Memory.wf (m : List Host.Cell) : Bool := Memory.wfFrom 0 m

/-! ## The policy of an address (R64 to R66; assumptions 4, 5, 17) -/

/-- The first region of the table that holds the address; an address no region holds is normal. -/
def regionAt : List Region → Nat → Option Region
  | [], _ => none
  | r :: rs, a => if r.base ≤ a ∧ a < r.base + r.size then some r else regionAt rs a

/-- The cell an address shows: its own, but in a mirrored region the cell at the mirror's target (R65 (b)).
DESIGN CHOICE (assumption 5): a target range that runs past 0xFFFF goes on at 0x0000. -/
def cellOf (rs : List Region) (a : Word) : Word :=
  match regionAt rs a.toNat with
  | some ⟨base, _, .mirror target⟩ => wrap16 (target.toNat + (a.toNat - base))
  | _ => a

/-- A write to the address is not dropped: the cell it shows is in no read-only region (R65 (a), (c)). -/
def writable (rs : List Region) (a : Word) : Bool :=
  match regionAt rs (cellOf rs a).toNat with
  | some ⟨_, _, .readOnly⟩ => false
  | _ => true

/-- The address, or the cell it shows, is in a region the collaborator owns (R65 (d); assumption 17). -/
def external (rs : List Region) (a : Word) : Bool :=
  match regionAt rs (cellOf rs a).toNat with
  | some ⟨_, _, .external⟩ => true
  | _ => false

/-- The address of the request byte IF (R441). -/
def addrIF : Word := 0xFF0F

/-- The address of the enable byte IE (R441). -/
def addrIE : Word := 0xFFFF

/-- The collaborator's state after a read of the address; outside the external regions reads have no side effect
(R66). Under IRQ = canonical reads of IE and IF have none either, as R441 demands of the collaborator. -/
def readDevice (p : Params) (d : Nat) (a : Word) : Nat :=
  if external p.regions a && !(decide (p.irq = .canonical) && (a == addrIE || a == addrIF)) then
    (Config.externalRead d (cellOf p.regions a)).2
  else d

/-- The collaborator's state after a write to the address (R66). -/
def writeDevice (p : Params) (d : Nat) (a : Word) (v : Byte) : Nat :=
  if external p.regions a then Config.externalWrite d (cellOf p.regions a) v else d

/-- The listed cells after a write to the address: unchanged in a read-only region (R65 (c)) and in an external one. -/
def storeCell (rs : List Region) (m : List Host.Cell) (a : Word) (v : Byte) : List Host.Cell :=
  if writable rs a && !external rs a then Memory.write m (cellOf rs a).toNat v else m

/-- The byte a read of the address gives (R61, R64, R66). -/
def State.peek (s : State) (a : Word) : Byte :=
  if external s.params.regions a then (Config.externalRead s.device (cellOf s.params.regions a)).1
  else Memory.read s.mem (cellOf s.params.regions a).toNat

/-- `Mem` after a read of the address, whatever its byte is used for (R66). -/
def State.afterRead (s : State) (a : Word) : State := { s with device := readDevice s.params s.device a }

/-- `Mem` after a write to the address (R65, R66). -/
def State.store (s : State) (a : Word) (v : Byte) : State :=
  { s with
    mem := storeCell s.params.regions s.mem a v
    device := writeDevice s.params s.device a v }

/-! ## The memory port (R10, R61, R62) -/

/-- `MemRead(a, 1)`. -/
def State.busRead (s : State) (a : Word) : Byte × State :=
  (s.peek a, { s.afterRead a with bus := s.bus ++ [.read a (s.peek a)] })

/-- `MemWrite(a, 1, v)`. -/
def State.busWrite (s : State) (a : Word) (v : Byte) : State :=
  { s.store a v with bus := s.bus ++ [.write a v] }

/-- `fetch8()` (R11). -/
def State.fetch8 (s : State) : Byte × State :=
  ((s.busRead s.pc).1, { (s.busRead s.pc).2 with pc := s.pc + 1 })

/-! ## Registers and views (R9, R23 to R29) -/

/-- `x[r]`. -/
def State.reg (s : State) : Reg → Byte
  | .A => s.regs.a
  | .B => s.regs.b
  | .C => s.regs.c
  | .D => s.regs.d
  | .E => s.regs.e
  | .H => s.regs.h
  | .L => s.regs.l

/-- `x[r] <- v`. -/
def State.setReg (s : State) (r : Reg) (v : Byte) : State :=
  match r with
  | .A => { s with regs := { s.regs with a := v } }
  | .B => { s with regs := { s.regs with b := v } }
  | .C => { s with regs := { s.regs with c := v } }
  | .D => { s with regs := { s.regs with d := v } }
  | .E => { s with regs := { s.regs with e := v } }
  | .H => { s with regs := { s.regs with h := v } }
  | .L => { s with regs := { s.regs with l := v } }

/-- The HL view (R26). -/
def State.hl (s : State) : Word := word s.regs.h s.regs.l

/-- `xx[rr]`, with `xx[SP]` the stack pointer (R9, R26, R27). -/
def State.pair (s : State) : Pair → Word
  | .BC => word s.regs.b s.regs.c
  | .DE => word s.regs.d s.regs.e
  | .HL => s.hl
  | .SP => s.sp

/-- `xx[rr] <- v`: high byte to the high register, low byte to the low register; SP whole (R9, R24, R26, R27). -/
def State.setPair (s : State) (p : Pair) (v : Word) : State :=
  match p with
  | .BC => { s with regs := { s.regs with b := hiByte v, c := loByte v } }
  | .DE => { s with regs := { s.regs with d := hiByte v, e := loByte v } }
  | .HL => { s with regs := { s.regs with h := hiByte v, l := loByte v } }
  | .SP => { s with sp := v }

/-- The flag byte view F: Z, N, H, C in bits 7 to 4 and a zero low nibble (R23). -/
def Flags.toByte (f : Flags) : Byte :=
  wrap8 (bit f.z * 128 + bit f.n * 64 + bit f.h * 32 + bit f.c * 16 : Nat)

/-- The flags a byte written to the view F gives; bits 3 to 0 are dropped (R23). -/
def Flags.ofByte (v : Byte) : Flags where
  z := v.getLsbD 7
  n := v.getLsbD 6
  h := v.getLsbD 5
  c := v.getLsbD 4

/-- `xx[rr]` for the pairs of PUSH and POP, AF among them (R28). -/
def State.stackPair (s : State) : StackPair → Word
  | .BC => s.pair .BC
  | .DE => s.pair .DE
  | .HL => s.pair .HL
  | .AF => word s.regs.a s.flags.toByte

/-- `xx[rr] <- v` for the pairs of PUSH and POP (R28). -/
def State.setStackPair (s : State) (q : StackPair) (v : Word) : State :=
  match q with
  | .BC => s.setPair .BC v
  | .DE => s.setPair .DE v
  | .HL => s.setPair .HL v
  | .AF => { s with regs := { s.regs with a := hiByte v }, flags := Flags.ofByte (loByte v) }

/-- Write all four flags. -/
def State.setFlags (s : State) (f : Flags) : State := { s with flags := f }

/-- `pc <- target`. -/
def State.jump (s : State) (target : Word) : State := { s with pc := target }

/-- The cycle count of a form under the parameter CYCLES (R480). -/
def State.count (s : State) (f : CycleForm) : Nat := countIn s.params.cycles f

/-- The handler reports its cycle count (R14, R480). -/
def State.report (s : State) (n : Nat) : State := { s with cycles := n }

/-! ## The setters' contract for values out of range (R29) -/

/-- An 8-bit setter given any integer. -/
def State.setRegInt (s : State) (r : Reg) (v : Int) : State := s.setReg r (wrap8 v)

/-- A 16-bit setter given any integer. -/
def State.setPairInt (s : State) (p : Pair) (v : Int) : State := s.setPair p (wrap16 v)

/-- The PC setter given any integer. -/
def State.setPcInt (s : State) (v : Int) : State := s.jump (wrap16 v)

/-! ## The stack (R310, R311) -/

/-- `push16(v)`: the high byte at SP - 1, then the low byte at SP - 2. -/
def State.push16 (s : State) (v : Word) : State :=
  let s1 := { s with sp := s.sp - 1 }
  let s2 := s1.busWrite s1.sp (hiByte v)
  let s3 := { s2 with sp := s2.sp - 1 }
  s3.busWrite s3.sp (loByte v)

/-- `pop16()`: the low byte from SP, then the high byte from SP + 1; SP moves up by 2. -/
def State.pop16 (s : State) : Word × State :=
  let (lo, s1) := s.busRead s.sp
  let (hi, s2) := s1.busRead (s.sp + 1)
  (word hi lo, { s2 with sp := s.sp + 2 })

/-! ## The exception, interrupt entry, and the return (R374, R420 to R422, R441, R442, R340) -/

/-- `raise UndefinedOpcode(op, at)`: nothing is saved, nothing is pushed, no vector is taken; the fault carries
the opcode byte, the address it was fetched from and the state the handler was given (R13, R422). What a step
puts in its place is `finishStep`'s (assumption 11). -/
def State.raiseUndefinedOpcode (s : State) (op : Byte) : Result :=
  .fault (.undefinedOpcode op s.fetchedAt s)

/-- Reads IE, then IF: `pending = IE & IF & 0x1F`, the IF byte read, and the state after the two reads
(R441, R443 point 2). -/
def State.samplePending (s : State) : Byte × Byte × State :=
  let (ie, s1) := s.busRead addrIE
  let (iff, s2) := s1.busRead addrIF
  (ie &&& iff &&& 0x1F, iff, s2)

/-- The lowest bit number set in `pending`, 0 to 4 (R442, R444). -/
def lowestPending (pending : Byte) : Nat :=
  if pending.getLsbD 0 then 0
  else if pending.getLsbD 1 then 1
  else if pending.getLsbD 2 then 2
  else if pending.getLsbD 3 then 3
  else 4

/-- Interrupt entry for the lowest pending source, `iff` being the IF byte read: IME and ei_delay cleared, pc
pushed, the one request bit cleared in IF, pc at the source's address (R442). -/
def State.interruptEntry (s : State) (pending iff : Byte) : State :=
  let i := lowestPending pending
  let s1 := { s with ime := false, eiDelay := false }
  let s2 := s1.push16 s1.pc
  let s3 := s2.busWrite addrIF (iff &&& wrap8 (255 - (2 ^ i : Nat)))
  (s3.jump (wrap16 (0x0040 + 8 * i : Nat))).report (s.count .interruptEntry)

/-- The return from an interrupt: pc popped, IME set at once, a pending EI dropped (R340, R445). -/
def State.returnFromInterrupt (s : State) : State :=
  let (target, s1) := s.pop16
  { s1.jump target with ime := true, eiDelay := false }

end Sys2Proof.Machine
end

