-- ==== Sys2Proof/Machine/Operands.lean ====
section
/-! DEFINITION. The operand forms: reading and writing an operand of the register table, and the addresses
of the memory forms through which A is loaded and stored (spec R106, R110, R208, R341). -/

namespace Sys2Proof.Machine

/-- The value of an operand: a register, or one read of the byte at HL (R106, R208). -/
def State.readOperand (s : State) : Operand → Byte × State
  | .reg r => (s.reg r, s)
  | .indHL => s.busRead s.hl

/-- Writes an operand: a register, or one write of the byte at HL (R106, R208). -/
def State.writeOperand (s : State) (x : Operand) (v : Byte) : State :=
  match x with
  | .reg r => s.setReg r v
  | .indHL => s.busWrite s.hl v

/-- The effective address of a memory form (R208). -/
def State.formAddr (s : State) : AddrForm → Word
  | .indBC => s.pair .BC
  | .indDE => s.pair .DE
  | .indNN nn => nn
  | .indHLI => s.hl
  | .indHLD => s.hl
  | .highN n => wrap16 (0xFF00 + n.toNat : Nat)
  | .highC => wrap16 (0xFF00 + s.regs.c.toNat : Nat)

/-- What a memory form does to the registers after the access: (HL+) and (HL-) move HL by one (R208). -/
def State.formAfter (s : State) : AddrForm → State
  | .indHLI => s.setPairInt .HL (s.hl.toNat + 1)
  | .indHLD => s.setPairInt .HL (s.hl.toNat - 1)
  | .indBC | .indDE | .indNN _ | .highN _ | .highC => s

/-- The address of a restart target (R341). -/
def rstAddr : RstTarget → Word
  | .t00 => 0x0000
  | .t08 => 0x0008
  | .t10 => 0x0010
  | .t18 => 0x0018
  | .t20 => 0x0020
  | .t28 => 0x0028
  | .t30 => 0x0030
  | .t38 => 0x0038

end Sys2Proof.Machine
end

