-- ==== Sys2Proof/Machine/Arith16.lean ====
section
/-! DEFINITION. 16-bit arithmetic (spec R300 to R303). -/

namespace Sys2Proof.Machine

/-! ## What the instructions of a shape do -/

/-- ADD HL,rr: Z unchanged (R300). -/
def addHL (p : Pair) (s : State) : Result :=
  let (v, f) := add16 s.hl (s.pair p) s.flags
  .next (((s.setPair .HL v).setFlags f).report (s.count (.addHL p)))

/-- ADD SP,e, its flags under SPDISP_FLAGS (R301, R303). -/
def execAddSPe (e : Byte) (s : State) : Result :=
  let (v, f) := addsp s.params.spDisp s.sp e s.flags
  .next (((s.setPair .SP v).setFlags f).report (s.count .addSP))

/-- LD HL,SP+e, its flags under SPDISP_FLAGS; SP unchanged (R302, R303). -/
def execLdHLSPe (e : Byte) (s : State) : Result :=
  let (v, f) := addsp s.params.spDisp s.sp e s.flags
  .next (((s.setPair .HL v).setFlags f).report (s.count .ldHLSP))

/-! ## One meaning for each row -/

/-- ADD HL,BC (R300) -/
def execAddHLBC (s : State) : Result := addHL .BC s
/-- ADD HL,DE (R300) -/
def execAddHLDE (s : State) : Result := addHL .DE s
/-- ADD HL,HL (R300) -/
def execAddHLHL (s : State) : Result := addHL .HL s
/-- ADD HL,SP (R300) -/
def execAddHLSP (s : State) : Result := addHL .SP s

end Sys2Proof.Machine
end

