-- ==== Sys2Proof/Machine/Arith8.lean ====
section
/-! DEFINITION. 8-bit accumulator arithmetic and logic (spec R260 to R283). -/

namespace Sys2Proof.Machine

/-! ## What the instructions of a shape do -/

/-- ADD, ADC, SUB, SBC, AND, XOR, OR, CP of A with a register or the byte at HL: A and all four flags
written, CP leaving A (R260 to R282). -/
def alu (op : AluOp) (x : Operand) (s : State) : Result :=
  let (b, s1) := s.readOperand x
  let (v, f) := aluResult op s.regs.a b s.flags
  .next (((s1.setReg .A v).setFlags f).report (s.count (.alu op x)))

/-- The same with an immediate (R262, R265, R268, R271, R274, R277, R280, R283). -/
def aluImm (op : AluOp) (n : Byte) (s : State) : Result :=
  let (v, f) := aluResult op s.regs.a n s.flags
  .next (((s.setReg .A v).setFlags f).report (s.count (.aluImm op)))

/-! ## One meaning for each row -/

/-- ADD A,B (R260) -/
def execAddAB (s : State) : Result := alu .add (.reg .B) s
/-- ADD A,C (R260) -/
def execAddAC (s : State) : Result := alu .add (.reg .C) s
/-- ADD A,D (R260) -/
def execAddAD (s : State) : Result := alu .add (.reg .D) s
/-- ADD A,E (R260) -/
def execAddAE (s : State) : Result := alu .add (.reg .E) s
/-- ADD A,H (R260) -/
def execAddAH (s : State) : Result := alu .add (.reg .H) s
/-- ADD A,L (R260) -/
def execAddAL (s : State) : Result := alu .add (.reg .L) s
/-- ADD A,(HL) (R261) -/
def execAddAIndHL (s : State) : Result := alu .add .indHL s
/-- ADD A,A (R260) -/
def execAddAA (s : State) : Result := alu .add (.reg .A) s
/-- ADC A,B (R263) -/
def execAdcAB (s : State) : Result := alu .adc (.reg .B) s
/-- ADC A,C (R263) -/
def execAdcAC (s : State) : Result := alu .adc (.reg .C) s
/-- ADC A,D (R263) -/
def execAdcAD (s : State) : Result := alu .adc (.reg .D) s
/-- ADC A,E (R263) -/
def execAdcAE (s : State) : Result := alu .adc (.reg .E) s
/-- ADC A,H (R263) -/
def execAdcAH (s : State) : Result := alu .adc (.reg .H) s
/-- ADC A,L (R263) -/
def execAdcAL (s : State) : Result := alu .adc (.reg .L) s
/-- ADC A,(HL) (R264) -/
def execAdcAIndHL (s : State) : Result := alu .adc .indHL s
/-- ADC A,A (R263) -/
def execAdcAA (s : State) : Result := alu .adc (.reg .A) s
/-- SUB A,B (R266) -/
def execSubAB (s : State) : Result := alu .sub (.reg .B) s
/-- SUB A,C (R266) -/
def execSubAC (s : State) : Result := alu .sub (.reg .C) s
/-- SUB A,D (R266) -/
def execSubAD (s : State) : Result := alu .sub (.reg .D) s
/-- SUB A,E (R266) -/
def execSubAE (s : State) : Result := alu .sub (.reg .E) s
/-- SUB A,H (R266) -/
def execSubAH (s : State) : Result := alu .sub (.reg .H) s
/-- SUB A,L (R266) -/
def execSubAL (s : State) : Result := alu .sub (.reg .L) s
/-- SUB A,(HL) (R267) -/
def execSubAIndHL (s : State) : Result := alu .sub .indHL s
/-- SUB A,A (R266) -/
def execSubAA (s : State) : Result := alu .sub (.reg .A) s
/-- SBC A,B (R269) -/
def execSbcAB (s : State) : Result := alu .sbc (.reg .B) s
/-- SBC A,C (R269) -/
def execSbcAC (s : State) : Result := alu .sbc (.reg .C) s
/-- SBC A,D (R269) -/
def execSbcAD (s : State) : Result := alu .sbc (.reg .D) s
/-- SBC A,E (R269) -/
def execSbcAE (s : State) : Result := alu .sbc (.reg .E) s
/-- SBC A,H (R269) -/
def execSbcAH (s : State) : Result := alu .sbc (.reg .H) s
/-- SBC A,L (R269) -/
def execSbcAL (s : State) : Result := alu .sbc (.reg .L) s
/-- SBC A,(HL) (R270) -/
def execSbcAIndHL (s : State) : Result := alu .sbc .indHL s
/-- SBC A,A (R269) -/
def execSbcAA (s : State) : Result := alu .sbc (.reg .A) s
/-- AND A,B (R272) -/
def execAndAB (s : State) : Result := alu .and (.reg .B) s
/-- AND A,C (R272) -/
def execAndAC (s : State) : Result := alu .and (.reg .C) s
/-- AND A,D (R272) -/
def execAndAD (s : State) : Result := alu .and (.reg .D) s
/-- AND A,E (R272) -/
def execAndAE (s : State) : Result := alu .and (.reg .E) s
/-- AND A,H (R272) -/
def execAndAH (s : State) : Result := alu .and (.reg .H) s
/-- AND A,L (R272) -/
def execAndAL (s : State) : Result := alu .and (.reg .L) s
/-- AND A,(HL) (R273) -/
def execAndAIndHL (s : State) : Result := alu .and .indHL s
/-- AND A,A (R272) -/
def execAndAA (s : State) : Result := alu .and (.reg .A) s
/-- XOR A,B (R275) -/
def execXorAB (s : State) : Result := alu .xor (.reg .B) s
/-- XOR A,C (R275) -/
def execXorAC (s : State) : Result := alu .xor (.reg .C) s
/-- XOR A,D (R275) -/
def execXorAD (s : State) : Result := alu .xor (.reg .D) s
/-- XOR A,E (R275) -/
def execXorAE (s : State) : Result := alu .xor (.reg .E) s
/-- XOR A,H (R275) -/
def execXorAH (s : State) : Result := alu .xor (.reg .H) s
/-- XOR A,L (R275) -/
def execXorAL (s : State) : Result := alu .xor (.reg .L) s
/-- XOR A,(HL) (R276) -/
def execXorAIndHL (s : State) : Result := alu .xor .indHL s
/-- XOR A,A (R275) -/
def execXorAA (s : State) : Result := alu .xor (.reg .A) s
/-- OR A,B (R278) -/
def execOrAB (s : State) : Result := alu .or (.reg .B) s
/-- OR A,C (R278) -/
def execOrAC (s : State) : Result := alu .or (.reg .C) s
/-- OR A,D (R278) -/
def execOrAD (s : State) : Result := alu .or (.reg .D) s
/-- OR A,E (R278) -/
def execOrAE (s : State) : Result := alu .or (.reg .E) s
/-- OR A,H (R278) -/
def execOrAH (s : State) : Result := alu .or (.reg .H) s
/-- OR A,L (R278) -/
def execOrAL (s : State) : Result := alu .or (.reg .L) s
/-- OR A,(HL) (R279) -/
def execOrAIndHL (s : State) : Result := alu .or .indHL s
/-- OR A,A (R278) -/
def execOrAA (s : State) : Result := alu .or (.reg .A) s
/-- CP A,B (R281) -/
def execCpAB (s : State) : Result := alu .cp (.reg .B) s
/-- CP A,C (R281) -/
def execCpAC (s : State) : Result := alu .cp (.reg .C) s
/-- CP A,D (R281) -/
def execCpAD (s : State) : Result := alu .cp (.reg .D) s
/-- CP A,E (R281) -/
def execCpAE (s : State) : Result := alu .cp (.reg .E) s
/-- CP A,H (R281) -/
def execCpAH (s : State) : Result := alu .cp (.reg .H) s
/-- CP A,L (R281) -/
def execCpAL (s : State) : Result := alu .cp (.reg .L) s
/-- CP A,(HL) (R282) -/
def execCpAIndHL (s : State) : Result := alu .cp .indHL s
/-- CP A,A (R281) -/
def execCpAA (s : State) : Result := alu .cp (.reg .A) s

/-- ADD A,n (R262) -/
def execAddAn (n : Byte) (s : State) : Result := aluImm .add n s
/-- ADC A,n (R265) -/
def execAdcAn (n : Byte) (s : State) : Result := aluImm .adc n s
/-- SUB A,n (R268) -/
def execSubAn (n : Byte) (s : State) : Result := aluImm .sub n s
/-- SBC A,n (R271) -/
def execSbcAn (n : Byte) (s : State) : Result := aluImm .sbc n s
/-- AND A,n (R274) -/
def execAndAn (n : Byte) (s : State) : Result := aluImm .and n s
/-- XOR A,n (R277) -/
def execXorAn (n : Byte) (s : State) : Result := aluImm .xor n s
/-- OR A,n (R280) -/
def execOrAn (n : Byte) (s : State) : Result := aluImm .or n s
/-- CP A,n (R283) -/
def execCpAn (n : Byte) (s : State) : Result := aluImm .cp n s

end Sys2Proof.Machine
end

