-- ==== Sys2Proof/Machine/CbTable.lean ====
section
/-! DEFINITION. The CB-prefixed sub-table (spec R390 to R412). -/

namespace Sys2Proof.Machine

/-! ## What the instructions of a shape do -/

/-- RLC, RRC, RL, RR, SLA, SRA, SWAP, SRL of an operand: written back, all four flags written (R391 to R406). -/
def shift (op : ShiftOp) (x : Operand) (s : State) : Result :=
  let (a, s1) := s.readOperand x
  let (v, f) := shift8 op a s.flags.c
  .next (((s1.writeOperand x v).setFlags f).report (s.count (.shift op x)))

/-- BIT b,x: only flags, C unchanged; the byte at HL is read once and not written (R407, R408). -/
def bitTest (b : BitNo) (x : Operand) (s : State) : Result :=
  let (a, s1) := s.readOperand x
  .next ((s1.setFlags (bit8 b a s.flags)).report (s.count (.bit b x)))

/-- RES b,x: no flag (R409, R410). -/
def bitRes (b : BitNo) (x : Operand) (s : State) : Result :=
  let (a, s1) := s.readOperand x
  .next ((s1.writeOperand x (res8 b a)).report (s.count (.res b x)))

/-- SET b,x: no flag (R411, R412). -/
def bitSet (b : BitNo) (x : Operand) (s : State) : Result :=
  let (a, s1) := s.readOperand x
  .next ((s1.writeOperand x (set8 b a)).report (s.count (.set b x)))

/-! ## One meaning for each row -/

/-- RLC B (R391) -/
def execRlcB (s : State) : Result := shift (.rot .rlc) (.reg .B) s
/-- RLC C (R391) -/
def execRlcC (s : State) : Result := shift (.rot .rlc) (.reg .C) s
/-- RLC D (R391) -/
def execRlcD (s : State) : Result := shift (.rot .rlc) (.reg .D) s
/-- RLC E (R391) -/
def execRlcE (s : State) : Result := shift (.rot .rlc) (.reg .E) s
/-- RLC H (R391) -/
def execRlcH (s : State) : Result := shift (.rot .rlc) (.reg .H) s
/-- RLC L (R391) -/
def execRlcL (s : State) : Result := shift (.rot .rlc) (.reg .L) s
/-- RLC (HL) (R392) -/
def execRlcIndHL (s : State) : Result := shift (.rot .rlc) .indHL s
/-- RLC A (R391) -/
def execRlcA (s : State) : Result := shift (.rot .rlc) (.reg .A) s
/-- RRC B (R393) -/
def execRrcB (s : State) : Result := shift (.rot .rrc) (.reg .B) s
/-- RRC C (R393) -/
def execRrcC (s : State) : Result := shift (.rot .rrc) (.reg .C) s
/-- RRC D (R393) -/
def execRrcD (s : State) : Result := shift (.rot .rrc) (.reg .D) s
/-- RRC E (R393) -/
def execRrcE (s : State) : Result := shift (.rot .rrc) (.reg .E) s
/-- RRC H (R393) -/
def execRrcH (s : State) : Result := shift (.rot .rrc) (.reg .H) s
/-- RRC L (R393) -/
def execRrcL (s : State) : Result := shift (.rot .rrc) (.reg .L) s
/-- RRC (HL) (R394) -/
def execRrcIndHL (s : State) : Result := shift (.rot .rrc) .indHL s
/-- RRC A (R393) -/
def execRrcA (s : State) : Result := shift (.rot .rrc) (.reg .A) s
/-- RL B (R395) -/
def execRlB (s : State) : Result := shift (.rot .rl) (.reg .B) s
/-- RL C (R395) -/
def execRlC (s : State) : Result := shift (.rot .rl) (.reg .C) s
/-- RL D (R395) -/
def execRlD (s : State) : Result := shift (.rot .rl) (.reg .D) s
/-- RL E (R395) -/
def execRlE (s : State) : Result := shift (.rot .rl) (.reg .E) s
/-- RL H (R395) -/
def execRlH (s : State) : Result := shift (.rot .rl) (.reg .H) s
/-- RL L (R395) -/
def execRlL (s : State) : Result := shift (.rot .rl) (.reg .L) s
/-- RL (HL) (R396) -/
def execRlIndHL (s : State) : Result := shift (.rot .rl) .indHL s
/-- RL A (R395) -/
def execRlA (s : State) : Result := shift (.rot .rl) (.reg .A) s
/-- RR B (R397) -/
def execRrB (s : State) : Result := shift (.rot .rr) (.reg .B) s
/-- RR C (R397) -/
def execRrC (s : State) : Result := shift (.rot .rr) (.reg .C) s
/-- RR D (R397) -/
def execRrD (s : State) : Result := shift (.rot .rr) (.reg .D) s
/-- RR E (R397) -/
def execRrE (s : State) : Result := shift (.rot .rr) (.reg .E) s
/-- RR H (R397) -/
def execRrH (s : State) : Result := shift (.rot .rr) (.reg .H) s
/-- RR L (R397) -/
def execRrL (s : State) : Result := shift (.rot .rr) (.reg .L) s
/-- RR (HL) (R398) -/
def execRrIndHL (s : State) : Result := shift (.rot .rr) .indHL s
/-- RR A (R397) -/
def execRrA (s : State) : Result := shift (.rot .rr) (.reg .A) s
/-- SLA B (R399) -/
def execSlaB (s : State) : Result := shift .sla (.reg .B) s
/-- SLA C (R399) -/
def execSlaC (s : State) : Result := shift .sla (.reg .C) s
/-- SLA D (R399) -/
def execSlaD (s : State) : Result := shift .sla (.reg .D) s
/-- SLA E (R399) -/
def execSlaE (s : State) : Result := shift .sla (.reg .E) s
/-- SLA H (R399) -/
def execSlaH (s : State) : Result := shift .sla (.reg .H) s
/-- SLA L (R399) -/
def execSlaL (s : State) : Result := shift .sla (.reg .L) s
/-- SLA (HL) (R400) -/
def execSlaIndHL (s : State) : Result := shift .sla .indHL s
/-- SLA A (R399) -/
def execSlaA (s : State) : Result := shift .sla (.reg .A) s
/-- SRA B (R401) -/
def execSraB (s : State) : Result := shift .sra (.reg .B) s
/-- SRA C (R401) -/
def execSraC (s : State) : Result := shift .sra (.reg .C) s
/-- SRA D (R401) -/
def execSraD (s : State) : Result := shift .sra (.reg .D) s
/-- SRA E (R401) -/
def execSraE (s : State) : Result := shift .sra (.reg .E) s
/-- SRA H (R401) -/
def execSraH (s : State) : Result := shift .sra (.reg .H) s
/-- SRA L (R401) -/
def execSraL (s : State) : Result := shift .sra (.reg .L) s
/-- SRA (HL) (R402) -/
def execSraIndHL (s : State) : Result := shift .sra .indHL s
/-- SRA A (R401) -/
def execSraA (s : State) : Result := shift .sra (.reg .A) s
/-- SWAP B (R403) -/
def execSwapB (s : State) : Result := shift .swap (.reg .B) s
/-- SWAP C (R403) -/
def execSwapC (s : State) : Result := shift .swap (.reg .C) s
/-- SWAP D (R403) -/
def execSwapD (s : State) : Result := shift .swap (.reg .D) s
/-- SWAP E (R403) -/
def execSwapE (s : State) : Result := shift .swap (.reg .E) s
/-- SWAP H (R403) -/
def execSwapH (s : State) : Result := shift .swap (.reg .H) s
/-- SWAP L (R403) -/
def execSwapL (s : State) : Result := shift .swap (.reg .L) s
/-- SWAP (HL) (R404) -/
def execSwapIndHL (s : State) : Result := shift .swap .indHL s
/-- SWAP A (R403) -/
def execSwapA (s : State) : Result := shift .swap (.reg .A) s
/-- SRL B (R405) -/
def execSrlB (s : State) : Result := shift .srl (.reg .B) s
/-- SRL C (R405) -/
def execSrlC (s : State) : Result := shift .srl (.reg .C) s
/-- SRL D (R405) -/
def execSrlD (s : State) : Result := shift .srl (.reg .D) s
/-- SRL E (R405) -/
def execSrlE (s : State) : Result := shift .srl (.reg .E) s
/-- SRL H (R405) -/
def execSrlH (s : State) : Result := shift .srl (.reg .H) s
/-- SRL L (R405) -/
def execSrlL (s : State) : Result := shift .srl (.reg .L) s
/-- SRL (HL) (R406) -/
def execSrlIndHL (s : State) : Result := shift .srl .indHL s
/-- SRL A (R405) -/
def execSrlA (s : State) : Result := shift .srl (.reg .A) s

/-- BIT 0,B (R407) -/
def execBit0B (s : State) : Result := bitTest .b0 (.reg .B) s
/-- BIT 0,C (R407) -/
def execBit0C (s : State) : Result := bitTest .b0 (.reg .C) s
/-- BIT 0,D (R407) -/
def execBit0D (s : State) : Result := bitTest .b0 (.reg .D) s
/-- BIT 0,E (R407) -/
def execBit0E (s : State) : Result := bitTest .b0 (.reg .E) s
/-- BIT 0,H (R407) -/
def execBit0H (s : State) : Result := bitTest .b0 (.reg .H) s
/-- BIT 0,L (R407) -/
def execBit0L (s : State) : Result := bitTest .b0 (.reg .L) s
/-- BIT 0,(HL) (R408) -/
def execBit0IndHL (s : State) : Result := bitTest .b0 .indHL s
/-- BIT 0,A (R407) -/
def execBit0A (s : State) : Result := bitTest .b0 (.reg .A) s
/-- BIT 1,B (R407) -/
def execBit1B (s : State) : Result := bitTest .b1 (.reg .B) s
/-- BIT 1,C (R407) -/
def execBit1C (s : State) : Result := bitTest .b1 (.reg .C) s
/-- BIT 1,D (R407) -/
def execBit1D (s : State) : Result := bitTest .b1 (.reg .D) s
/-- BIT 1,E (R407) -/
def execBit1E (s : State) : Result := bitTest .b1 (.reg .E) s
/-- BIT 1,H (R407) -/
def execBit1H (s : State) : Result := bitTest .b1 (.reg .H) s
/-- BIT 1,L (R407) -/
def execBit1L (s : State) : Result := bitTest .b1 (.reg .L) s
/-- BIT 1,(HL) (R408) -/
def execBit1IndHL (s : State) : Result := bitTest .b1 .indHL s
/-- BIT 1,A (R407) -/
def execBit1A (s : State) : Result := bitTest .b1 (.reg .A) s
/-- BIT 2,B (R407) -/
def execBit2B (s : State) : Result := bitTest .b2 (.reg .B) s
/-- BIT 2,C (R407) -/
def execBit2C (s : State) : Result := bitTest .b2 (.reg .C) s
/-- BIT 2,D (R407) -/
def execBit2D (s : State) : Result := bitTest .b2 (.reg .D) s
/-- BIT 2,E (R407) -/
def execBit2E (s : State) : Result := bitTest .b2 (.reg .E) s
/-- BIT 2,H (R407) -/
def execBit2H (s : State) : Result := bitTest .b2 (.reg .H) s
/-- BIT 2,L (R407) -/
def execBit2L (s : State) : Result := bitTest .b2 (.reg .L) s
/-- BIT 2,(HL) (R408) -/
def execBit2IndHL (s : State) : Result := bitTest .b2 .indHL s
/-- BIT 2,A (R407) -/
def execBit2A (s : State) : Result := bitTest .b2 (.reg .A) s
/-- BIT 3,B (R407) -/
def execBit3B (s : State) : Result := bitTest .b3 (.reg .B) s
/-- BIT 3,C (R407) -/
def execBit3C (s : State) : Result := bitTest .b3 (.reg .C) s
/-- BIT 3,D (R407) -/
def execBit3D (s : State) : Result := bitTest .b3 (.reg .D) s
/-- BIT 3,E (R407) -/
def execBit3E (s : State) : Result := bitTest .b3 (.reg .E) s
/-- BIT 3,H (R407) -/
def execBit3H (s : State) : Result := bitTest .b3 (.reg .H) s
/-- BIT 3,L (R407) -/
def execBit3L (s : State) : Result := bitTest .b3 (.reg .L) s
/-- BIT 3,(HL) (R408) -/
def execBit3IndHL (s : State) : Result := bitTest .b3 .indHL s
/-- BIT 3,A (R407) -/
def execBit3A (s : State) : Result := bitTest .b3 (.reg .A) s
/-- BIT 4,B (R407) -/
def execBit4B (s : State) : Result := bitTest .b4 (.reg .B) s
/-- BIT 4,C (R407) -/
def execBit4C (s : State) : Result := bitTest .b4 (.reg .C) s
/-- BIT 4,D (R407) -/
def execBit4D (s : State) : Result := bitTest .b4 (.reg .D) s
/-- BIT 4,E (R407) -/
def execBit4E (s : State) : Result := bitTest .b4 (.reg .E) s
/-- BIT 4,H (R407) -/
def execBit4H (s : State) : Result := bitTest .b4 (.reg .H) s
/-- BIT 4,L (R407) -/
def execBit4L (s : State) : Result := bitTest .b4 (.reg .L) s
/-- BIT 4,(HL) (R408) -/
def execBit4IndHL (s : State) : Result := bitTest .b4 .indHL s
/-- BIT 4,A (R407) -/
def execBit4A (s : State) : Result := bitTest .b4 (.reg .A) s
/-- BIT 5,B (R407) -/
def execBit5B (s : State) : Result := bitTest .b5 (.reg .B) s
/-- BIT 5,C (R407) -/
def execBit5C (s : State) : Result := bitTest .b5 (.reg .C) s
/-- BIT 5,D (R407) -/
def execBit5D (s : State) : Result := bitTest .b5 (.reg .D) s
/-- BIT 5,E (R407) -/
def execBit5E (s : State) : Result := bitTest .b5 (.reg .E) s
/-- BIT 5,H (R407) -/
def execBit5H (s : State) : Result := bitTest .b5 (.reg .H) s
/-- BIT 5,L (R407) -/
def execBit5L (s : State) : Result := bitTest .b5 (.reg .L) s
/-- BIT 5,(HL) (R408) -/
def execBit5IndHL (s : State) : Result := bitTest .b5 .indHL s
/-- BIT 5,A (R407) -/
def execBit5A (s : State) : Result := bitTest .b5 (.reg .A) s
/-- BIT 6,B (R407) -/
def execBit6B (s : State) : Result := bitTest .b6 (.reg .B) s
/-- BIT 6,C (R407) -/
def execBit6C (s : State) : Result := bitTest .b6 (.reg .C) s
/-- BIT 6,D (R407) -/
def execBit6D (s : State) : Result := bitTest .b6 (.reg .D) s
/-- BIT 6,E (R407) -/
def execBit6E (s : State) : Result := bitTest .b6 (.reg .E) s
/-- BIT 6,H (R407) -/
def execBit6H (s : State) : Result := bitTest .b6 (.reg .H) s
/-- BIT 6,L (R407) -/
def execBit6L (s : State) : Result := bitTest .b6 (.reg .L) s
/-- BIT 6,(HL) (R408) -/
def execBit6IndHL (s : State) : Result := bitTest .b6 .indHL s
/-- BIT 6,A (R407) -/
def execBit6A (s : State) : Result := bitTest .b6 (.reg .A) s
/-- BIT 7,B (R407) -/
def execBit7B (s : State) : Result := bitTest .b7 (.reg .B) s
/-- BIT 7,C (R407) -/
def execBit7C (s : State) : Result := bitTest .b7 (.reg .C) s
/-- BIT 7,D (R407) -/
def execBit7D (s : State) : Result := bitTest .b7 (.reg .D) s
/-- BIT 7,E (R407) -/
def execBit7E (s : State) : Result := bitTest .b7 (.reg .E) s
/-- BIT 7,H (R407) -/
def execBit7H (s : State) : Result := bitTest .b7 (.reg .H) s
/-- BIT 7,L (R407) -/
def execBit7L (s : State) : Result := bitTest .b7 (.reg .L) s
/-- BIT 7,(HL) (R408) -/
def execBit7IndHL (s : State) : Result := bitTest .b7 .indHL s
/-- BIT 7,A (R407) -/
def execBit7A (s : State) : Result := bitTest .b7 (.reg .A) s

/-- RES 0,B (R409) -/
def execRes0B (s : State) : Result := bitRes .b0 (.reg .B) s
/-- RES 0,C (R409) -/
def execRes0C (s : State) : Result := bitRes .b0 (.reg .C) s
/-- RES 0,D (R409) -/
def execRes0D (s : State) : Result := bitRes .b0 (.reg .D) s
/-- RES 0,E (R409) -/
def execRes0E (s : State) : Result := bitRes .b0 (.reg .E) s
/-- RES 0,H (R409) -/
def execRes0H (s : State) : Result := bitRes .b0 (.reg .H) s
/-- RES 0,L (R409) -/
def execRes0L (s : State) : Result := bitRes .b0 (.reg .L) s
/-- RES 0,(HL) (R410) -/
def execRes0IndHL (s : State) : Result := bitRes .b0 .indHL s
/-- RES 0,A (R409) -/
def execRes0A (s : State) : Result := bitRes .b0 (.reg .A) s
/-- RES 1,B (R409) -/
def execRes1B (s : State) : Result := bitRes .b1 (.reg .B) s
/-- RES 1,C (R409) -/
def execRes1C (s : State) : Result := bitRes .b1 (.reg .C) s
/-- RES 1,D (R409) -/
def execRes1D (s : State) : Result := bitRes .b1 (.reg .D) s
/-- RES 1,E (R409) -/
def execRes1E (s : State) : Result := bitRes .b1 (.reg .E) s
/-- RES 1,H (R409) -/
def execRes1H (s : State) : Result := bitRes .b1 (.reg .H) s
/-- RES 1,L (R409) -/
def execRes1L (s : State) : Result := bitRes .b1 (.reg .L) s
/-- RES 1,(HL) (R410) -/
def execRes1IndHL (s : State) : Result := bitRes .b1 .indHL s
/-- RES 1,A (R409) -/
def execRes1A (s : State) : Result := bitRes .b1 (.reg .A) s
/-- RES 2,B (R409) -/
def execRes2B (s : State) : Result := bitRes .b2 (.reg .B) s
/-- RES 2,C (R409) -/
def execRes2C (s : State) : Result := bitRes .b2 (.reg .C) s
/-- RES 2,D (R409) -/
def execRes2D (s : State) : Result := bitRes .b2 (.reg .D) s
/-- RES 2,E (R409) -/
def execRes2E (s : State) : Result := bitRes .b2 (.reg .E) s
/-- RES 2,H (R409) -/
def execRes2H (s : State) : Result := bitRes .b2 (.reg .H) s
/-- RES 2,L (R409) -/
def execRes2L (s : State) : Result := bitRes .b2 (.reg .L) s
/-- RES 2,(HL) (R410) -/
def execRes2IndHL (s : State) : Result := bitRes .b2 .indHL s
/-- RES 2,A (R409) -/
def execRes2A (s : State) : Result := bitRes .b2 (.reg .A) s
/-- RES 3,B (R409) -/
def execRes3B (s : State) : Result := bitRes .b3 (.reg .B) s
/-- RES 3,C (R409) -/
def execRes3C (s : State) : Result := bitRes .b3 (.reg .C) s
/-- RES 3,D (R409) -/
def execRes3D (s : State) : Result := bitRes .b3 (.reg .D) s
/-- RES 3,E (R409) -/
def execRes3E (s : State) : Result := bitRes .b3 (.reg .E) s
/-- RES 3,H (R409) -/
def execRes3H (s : State) : Result := bitRes .b3 (.reg .H) s
/-- RES 3,L (R409) -/
def execRes3L (s : State) : Result := bitRes .b3 (.reg .L) s
/-- RES 3,(HL) (R410) -/
def execRes3IndHL (s : State) : Result := bitRes .b3 .indHL s
/-- RES 3,A (R409) -/
def execRes3A (s : State) : Result := bitRes .b3 (.reg .A) s
/-- RES 4,B (R409) -/
def execRes4B (s : State) : Result := bitRes .b4 (.reg .B) s
/-- RES 4,C (R409) -/
def execRes4C (s : State) : Result := bitRes .b4 (.reg .C) s
/-- RES 4,D (R409) -/
def execRes4D (s : State) : Result := bitRes .b4 (.reg .D) s
/-- RES 4,E (R409) -/
def execRes4E (s : State) : Result := bitRes .b4 (.reg .E) s
/-- RES 4,H (R409) -/
def execRes4H (s : State) : Result := bitRes .b4 (.reg .H) s
/-- RES 4,L (R409) -/
def execRes4L (s : State) : Result := bitRes .b4 (.reg .L) s
/-- RES 4,(HL) (R410) -/
def execRes4IndHL (s : State) : Result := bitRes .b4 .indHL s
/-- RES 4,A (R409) -/
def execRes4A (s : State) : Result := bitRes .b4 (.reg .A) s
/-- RES 5,B (R409) -/
def execRes5B (s : State) : Result := bitRes .b5 (.reg .B) s
/-- RES 5,C (R409) -/
def execRes5C (s : State) : Result := bitRes .b5 (.reg .C) s
/-- RES 5,D (R409) -/
def execRes5D (s : State) : Result := bitRes .b5 (.reg .D) s
/-- RES 5,E (R409) -/
def execRes5E (s : State) : Result := bitRes .b5 (.reg .E) s
/-- RES 5,H (R409) -/
def execRes5H (s : State) : Result := bitRes .b5 (.reg .H) s
/-- RES 5,L (R409) -/
def execRes5L (s : State) : Result := bitRes .b5 (.reg .L) s
/-- RES 5,(HL) (R410) -/
def execRes5IndHL (s : State) : Result := bitRes .b5 .indHL s
/-- RES 5,A (R409) -/
def execRes5A (s : State) : Result := bitRes .b5 (.reg .A) s
/-- RES 6,B (R409) -/
def execRes6B (s : State) : Result := bitRes .b6 (.reg .B) s
/-- RES 6,C (R409) -/
def execRes6C (s : State) : Result := bitRes .b6 (.reg .C) s
/-- RES 6,D (R409) -/
def execRes6D (s : State) : Result := bitRes .b6 (.reg .D) s
/-- RES 6,E (R409) -/
def execRes6E (s : State) : Result := bitRes .b6 (.reg .E) s
/-- RES 6,H (R409) -/
def execRes6H (s : State) : Result := bitRes .b6 (.reg .H) s
/-- RES 6,L (R409) -/
def execRes6L (s : State) : Result := bitRes .b6 (.reg .L) s
/-- RES 6,(HL) (R410) -/
def execRes6IndHL (s : State) : Result := bitRes .b6 .indHL s
/-- RES 6,A (R409) -/
def execRes6A (s : State) : Result := bitRes .b6 (.reg .A) s
/-- RES 7,B (R409) -/
def execRes7B (s : State) : Result := bitRes .b7 (.reg .B) s
/-- RES 7,C (R409) -/
def execRes7C (s : State) : Result := bitRes .b7 (.reg .C) s
/-- RES 7,D (R409) -/
def execRes7D (s : State) : Result := bitRes .b7 (.reg .D) s
/-- RES 7,E (R409) -/
def execRes7E (s : State) : Result := bitRes .b7 (.reg .E) s
/-- RES 7,H (R409) -/
def execRes7H (s : State) : Result := bitRes .b7 (.reg .H) s
/-- RES 7,L (R409) -/
def execRes7L (s : State) : Result := bitRes .b7 (.reg .L) s
/-- RES 7,(HL) (R410) -/
def execRes7IndHL (s : State) : Result := bitRes .b7 .indHL s
/-- RES 7,A (R409) -/
def execRes7A (s : State) : Result := bitRes .b7 (.reg .A) s

/-- SET 0,B (R411) -/
def execSet0B (s : State) : Result := bitSet .b0 (.reg .B) s
/-- SET 0,C (R411) -/
def execSet0C (s : State) : Result := bitSet .b0 (.reg .C) s
/-- SET 0,D (R411) -/
def execSet0D (s : State) : Result := bitSet .b0 (.reg .D) s
/-- SET 0,E (R411) -/
def execSet0E (s : State) : Result := bitSet .b0 (.reg .E) s
/-- SET 0,H (R411) -/
def execSet0H (s : State) : Result := bitSet .b0 (.reg .H) s
/-- SET 0,L (R411) -/
def execSet0L (s : State) : Result := bitSet .b0 (.reg .L) s
/-- SET 0,(HL) (R412) -/
def execSet0IndHL (s : State) : Result := bitSet .b0 .indHL s
/-- SET 0,A (R411) -/
def execSet0A (s : State) : Result := bitSet .b0 (.reg .A) s
/-- SET 1,B (R411) -/
def execSet1B (s : State) : Result := bitSet .b1 (.reg .B) s
/-- SET 1,C (R411) -/
def execSet1C (s : State) : Result := bitSet .b1 (.reg .C) s
/-- SET 1,D (R411) -/
def execSet1D (s : State) : Result := bitSet .b1 (.reg .D) s
/-- SET 1,E (R411) -/
def execSet1E (s : State) : Result := bitSet .b1 (.reg .E) s
/-- SET 1,H (R411) -/
def execSet1H (s : State) : Result := bitSet .b1 (.reg .H) s
/-- SET 1,L (R411) -/
def execSet1L (s : State) : Result := bitSet .b1 (.reg .L) s
/-- SET 1,(HL) (R412) -/
def execSet1IndHL (s : State) : Result := bitSet .b1 .indHL s
/-- SET 1,A (R411) -/
def execSet1A (s : State) : Result := bitSet .b1 (.reg .A) s
/-- SET 2,B (R411) -/
def execSet2B (s : State) : Result := bitSet .b2 (.reg .B) s
/-- SET 2,C (R411) -/
def execSet2C (s : State) : Result := bitSet .b2 (.reg .C) s
/-- SET 2,D (R411) -/
def execSet2D (s : State) : Result := bitSet .b2 (.reg .D) s
/-- SET 2,E (R411) -/
def execSet2E (s : State) : Result := bitSet .b2 (.reg .E) s
/-- SET 2,H (R411) -/
def execSet2H (s : State) : Result := bitSet .b2 (.reg .H) s
/-- SET 2,L (R411) -/
def execSet2L (s : State) : Result := bitSet .b2 (.reg .L) s
/-- SET 2,(HL) (R412) -/
def execSet2IndHL (s : State) : Result := bitSet .b2 .indHL s
/-- SET 2,A (R411) -/
def execSet2A (s : State) : Result := bitSet .b2 (.reg .A) s
/-- SET 3,B (R411) -/
def execSet3B (s : State) : Result := bitSet .b3 (.reg .B) s
/-- SET 3,C (R411) -/
def execSet3C (s : State) : Result := bitSet .b3 (.reg .C) s
/-- SET 3,D (R411) -/
def execSet3D (s : State) : Result := bitSet .b3 (.reg .D) s
/-- SET 3,E (R411) -/
def execSet3E (s : State) : Result := bitSet .b3 (.reg .E) s
/-- SET 3,H (R411) -/
def execSet3H (s : State) : Result := bitSet .b3 (.reg .H) s
/-- SET 3,L (R411) -/
def execSet3L (s : State) : Result := bitSet .b3 (.reg .L) s
/-- SET 3,(HL) (R412) -/
def execSet3IndHL (s : State) : Result := bitSet .b3 .indHL s
/-- SET 3,A (R411) -/
def execSet3A (s : State) : Result := bitSet .b3 (.reg .A) s
/-- SET 4,B (R411) -/
def execSet4B (s : State) : Result := bitSet .b4 (.reg .B) s
/-- SET 4,C (R411) -/
def execSet4C (s : State) : Result := bitSet .b4 (.reg .C) s
/-- SET 4,D (R411) -/
def execSet4D (s : State) : Result := bitSet .b4 (.reg .D) s
/-- SET 4,E (R411) -/
def execSet4E (s : State) : Result := bitSet .b4 (.reg .E) s
/-- SET 4,H (R411) -/
def execSet4H (s : State) : Result := bitSet .b4 (.reg .H) s
/-- SET 4,L (R411) -/
def execSet4L (s : State) : Result := bitSet .b4 (.reg .L) s
/-- SET 4,(HL) (R412) -/
def execSet4IndHL (s : State) : Result := bitSet .b4 .indHL s
/-- SET 4,A (R411) -/
def execSet4A (s : State) : Result := bitSet .b4 (.reg .A) s
/-- SET 5,B (R411) -/
def execSet5B (s : State) : Result := bitSet .b5 (.reg .B) s
/-- SET 5,C (R411) -/
def execSet5C (s : State) : Result := bitSet .b5 (.reg .C) s
/-- SET 5,D (R411) -/
def execSet5D (s : State) : Result := bitSet .b5 (.reg .D) s
/-- SET 5,E (R411) -/
def execSet5E (s : State) : Result := bitSet .b5 (.reg .E) s
/-- SET 5,H (R411) -/
def execSet5H (s : State) : Result := bitSet .b5 (.reg .H) s
/-- SET 5,L (R411) -/
def execSet5L (s : State) : Result := bitSet .b5 (.reg .L) s
/-- SET 5,(HL) (R412) -/
def execSet5IndHL (s : State) : Result := bitSet .b5 .indHL s
/-- SET 5,A (R411) -/
def execSet5A (s : State) : Result := bitSet .b5 (.reg .A) s
/-- SET 6,B (R411) -/
def execSet6B (s : State) : Result := bitSet .b6 (.reg .B) s
/-- SET 6,C (R411) -/
def execSet6C (s : State) : Result := bitSet .b6 (.reg .C) s
/-- SET 6,D (R411) -/
def execSet6D (s : State) : Result := bitSet .b6 (.reg .D) s
/-- SET 6,E (R411) -/
def execSet6E (s : State) : Result := bitSet .b6 (.reg .E) s
/-- SET 6,H (R411) -/
def execSet6H (s : State) : Result := bitSet .b6 (.reg .H) s
/-- SET 6,L (R411) -/
def execSet6L (s : State) : Result := bitSet .b6 (.reg .L) s
/-- SET 6,(HL) (R412) -/
def execSet6IndHL (s : State) : Result := bitSet .b6 .indHL s
/-- SET 6,A (R411) -/
def execSet6A (s : State) : Result := bitSet .b6 (.reg .A) s
/-- SET 7,B (R411) -/
def execSet7B (s : State) : Result := bitSet .b7 (.reg .B) s
/-- SET 7,C (R411) -/
def execSet7C (s : State) : Result := bitSet .b7 (.reg .C) s
/-- SET 7,D (R411) -/
def execSet7D (s : State) : Result := bitSet .b7 (.reg .D) s
/-- SET 7,E (R411) -/
def execSet7E (s : State) : Result := bitSet .b7 (.reg .E) s
/-- SET 7,H (R411) -/
def execSet7H (s : State) : Result := bitSet .b7 (.reg .H) s
/-- SET 7,L (R411) -/
def execSet7L (s : State) : Result := bitSet .b7 (.reg .L) s
/-- SET 7,(HL) (R412) -/
def execSet7IndHL (s : State) : Result := bitSet .b7 .indHL s
/-- SET 7,A (R411) -/
def execSet7A (s : State) : Result := bitSet .b7 (.reg .A) s

end Sys2Proof.Machine
end

