-- ==== Sys2Proof/Machine/Control.lean ====
section
/-! DEFINITION. Control transfer (spec R330 to R341). The operand bytes are already fetched, so pc is the address of the
following instruction. -/

namespace Sys2Proof.Machine

/-! ## What the instructions of a shape do -/

/-- The target of a relative jump: `(pc + signed8(e)) mod 65536` (R334). -/
def State.relTarget (s : State) (e : Byte) : Word := wrap16 (s.pc.toNat + signed8 e)

/-- JP nn (R331). -/
def execJpNn (nn : Word) (s : State) : Result := .next ((s.jump nn).report (s.count .jp))

/-- JP cc,nn (R332). -/
def jpCond (cc : Cond) (nn : Word) (s : State) : Result :=
  if s.flags.holds cc then .next ((s.jump nn).report (s.count (.jpCond cc true)))
  else .next (s.report (s.count (.jpCond cc false)))

/-- JP HL (R333). -/
def execJpHL (s : State) : Result := .next ((s.jump s.hl).report (s.count .jpHL))

/-- JR e (R334). -/
def execJrE (e : Byte) (s : State) : Result :=
  .next ((s.jump (s.relTarget e)).report (s.count .jr))

/-- JR cc,e (R335). -/
def jrCond (cc : Cond) (e : Byte) (s : State) : Result :=
  if s.flags.holds cc then .next ((s.jump (s.relTarget e)).report (s.count (.jrCond cc true)))
  else .next (s.report (s.count (.jrCond cc false)))

/-- CALL nn: pc pushed, then the jump (R336). -/
def execCallNn (nn : Word) (s : State) : Result :=
  .next (((s.push16 s.pc).jump nn).report (s.count .call))

/-- CALL cc,nn (R337). -/
def callCond (cc : Cond) (nn : Word) (s : State) : Result :=
  if s.flags.holds cc then .next (((s.push16 s.pc).jump nn).report (s.count (.callCond cc true)))
  else .next (s.report (s.count (.callCond cc false)))

/-- RET: `pc <- pop16()` (R338). -/
def execRet (s : State) : Result :=
  let (target, s1) := s.pop16
  .next ((s1.jump target).report (s.count .ret))

/-- RET cc (R339). -/
def retCond (cc : Cond) (s : State) : Result :=
  if s.flags.holds cc then
    let (target, s1) := s.pop16
    .next ((s1.jump target).report (s.count (.retCond cc true)))
  else .next (s.report (s.count (.retCond cc false)))

/-- RETI (R340). -/
def execReti (s : State) : Result := .next (s.returnFromInterrupt.report (s.count .reti))

/-- RST t: pc pushed, then the jump to t (R341). -/
def rst (t : RstTarget) (s : State) : Result :=
  .next (((s.push16 s.pc).jump (rstAddr t)).report (s.count (.rst t)))

/-! ## One meaning for each row -/

/-- JP NZ,nn (R332) -/
def execJpNZnn (nn : Word) (s : State) : Result := jpCond .NZ nn s
/-- JP Z,nn (R332) -/
def execJpZnn (nn : Word) (s : State) : Result := jpCond .Z nn s
/-- JP NC,nn (R332) -/
def execJpNCnn (nn : Word) (s : State) : Result := jpCond .NC nn s
/-- JP C,nn (R332) -/
def execJpCnn (nn : Word) (s : State) : Result := jpCond .C nn s

/-- JR NZ,e (R335) -/
def execJrNZe (e : Byte) (s : State) : Result := jrCond .NZ e s
/-- JR Z,e (R335) -/
def execJrZe (e : Byte) (s : State) : Result := jrCond .Z e s
/-- JR NC,e (R335) -/
def execJrNCe (e : Byte) (s : State) : Result := jrCond .NC e s
/-- JR C,e (R335) -/
def execJrCe (e : Byte) (s : State) : Result := jrCond .C e s

/-- CALL NZ,nn (R337) -/
def execCallNZnn (nn : Word) (s : State) : Result := callCond .NZ nn s
/-- CALL Z,nn (R337) -/
def execCallZnn (nn : Word) (s : State) : Result := callCond .Z nn s
/-- CALL NC,nn (R337) -/
def execCallNCnn (nn : Word) (s : State) : Result := callCond .NC nn s
/-- CALL C,nn (R337) -/
def execCallCnn (nn : Word) (s : State) : Result := callCond .C nn s

/-- RET NZ (R339) -/
def execRetNZ (s : State) : Result := retCond .NZ s
/-- RET Z (R339) -/
def execRetZ (s : State) : Result := retCond .Z s
/-- RET NC (R339) -/
def execRetNC (s : State) : Result := retCond .NC s
/-- RET C (R339) -/
def execRetC (s : State) : Result := retCond .C s

/-- RST 0x00 (R341) -/
def execRst00 (s : State) : Result := rst .t00 s
/-- RST 0x08 (R341) -/
def execRst08 (s : State) : Result := rst .t08 s
/-- RST 0x10 (R341) -/
def execRst10 (s : State) : Result := rst .t10 s
/-- RST 0x18 (R341) -/
def execRst18 (s : State) : Result := rst .t18 s
/-- RST 0x20 (R341) -/
def execRst20 (s : State) : Result := rst .t20 s
/-- RST 0x28 (R341) -/
def execRst28 (s : State) : Result := rst .t28 s
/-- RST 0x30 (R341) -/
def execRst30 (s : State) : Result := rst .t30 s
/-- RST 0x38 (R341) -/
def execRst38 (s : State) : Result := rst .t38 s

end Sys2Proof.Machine
end

