-- ==== Sys2Proof/Machine/IncDec.lean ====
section
/-! DEFINITION. Increment and decrement (spec R240 to R245). -/

namespace Sys2Proof.Machine

/-! ## What the instructions of a shape do -/

/-- INC x: `inc8`, the operand written back, C unchanged (R240, R241). -/
def inc (x : Operand) (s : State) : Result :=
  let (a, s1) := s.readOperand x
  let (v, f) := inc8 a s.flags
  .next (((s1.writeOperand x v).setFlags f).report (s.count (.inc x)))

/-- DEC x: `dec8`, the operand written back, C unchanged (R242, R243). -/
def dec (x : Operand) (s : State) : Result :=
  let (a, s1) := s.readOperand x
  let (v, f) := dec8 a s.flags
  .next (((s1.writeOperand x v).setFlags f).report (s.count (.dec x)))

/-- INC rr: no flag is touched (R244). -/
def incPair (p : Pair) (s : State) : Result :=
  .next ((s.setPair p (inc16 (s.pair p))).report (s.count (.incPair p)))

/-- DEC rr: no flag is touched (R245). -/
def decPair (p : Pair) (s : State) : Result :=
  .next ((s.setPair p (dec16 (s.pair p))).report (s.count (.decPair p)))

/-! ## One meaning for each row -/

/-- INC B (R240) -/
def execIncB (s : State) : Result := inc (.reg .B) s
/-- INC C (R240) -/
def execIncC (s : State) : Result := inc (.reg .C) s
/-- INC D (R240) -/
def execIncD (s : State) : Result := inc (.reg .D) s
/-- INC E (R240) -/
def execIncE (s : State) : Result := inc (.reg .E) s
/-- INC H (R240) -/
def execIncH (s : State) : Result := inc (.reg .H) s
/-- INC L (R240) -/
def execIncL (s : State) : Result := inc (.reg .L) s
/-- INC (HL) (R241) -/
def execIncIndHL (s : State) : Result := inc .indHL s
/-- INC A (R240) -/
def execIncA (s : State) : Result := inc (.reg .A) s

/-- DEC B (R242) -/
def execDecB (s : State) : Result := dec (.reg .B) s
/-- DEC C (R242) -/
def execDecC (s : State) : Result := dec (.reg .C) s
/-- DEC D (R242) -/
def execDecD (s : State) : Result := dec (.reg .D) s
/-- DEC E (R242) -/
def execDecE (s : State) : Result := dec (.reg .E) s
/-- DEC H (R242) -/
def execDecH (s : State) : Result := dec (.reg .H) s
/-- DEC L (R242) -/
def execDecL (s : State) : Result := dec (.reg .L) s
/-- DEC (HL) (R243) -/
def execDecIndHL (s : State) : Result := dec .indHL s
/-- DEC A (R242) -/
def execDecA (s : State) : Result := dec (.reg .A) s

/-- INC BC (R244) -/
def execIncBC (s : State) : Result := incPair .BC s
/-- INC DE (R244) -/
def execIncDE (s : State) : Result := incPair .DE s
/-- INC HL (R244) -/
def execIncHL (s : State) : Result := incPair .HL s
/-- INC SP (R244) -/
def execIncSP (s : State) : Result := incPair .SP s

/-- DEC BC (R245) -/
def execDecBC (s : State) : Result := decPair .BC s
/-- DEC DE (R245) -/
def execDecDE (s : State) : Result := decPair .DE s
/-- DEC HL (R245) -/
def execDecHL (s : State) : Result := decPair .HL s
/-- DEC SP (R245) -/
def execDecSP (s : State) : Result := decPair .SP s

end Sys2Proof.Machine
end

