-- ==== Sys2Proof/Machine/Loads16.lean ====
section
/-! DEFINITION. The 16-bit loads and the loads of A through memory (spec R200 to R208, R220 to R228). -/

namespace Sys2Proof.Machine

/-! ## What the instructions of a shape do -/

/-- LD rr,nn: `xx[rr] <- nn` (R200). -/
def ldPairImm (p : Pair) (nn : Word) (s : State) : Result :=
  .next ((s.setPair p nn).report (s.count (.ldPairImm p)))

/-- `x[A] <- MemRead(EA, 1)`, then what the form does to HL (R201, R202, R205, R208, R222, R223, R225, R227). -/
def loadA (m : AddrForm) (s : State) : Result :=
  let (v, s1) := s.busRead (s.formAddr m)
  .next (((s1.setReg .A v).formAfter m).report (s.count (.loadA m.kind)))

/-- `MemWrite(EA, 1, x[A])`, then what the form does to HL (R203, R204, R206, R208, R220, R221, R224, R226). -/
def storeA (m : AddrForm) (s : State) : Result :=
  .next (((s.busWrite (s.formAddr m) s.regs.a).formAfter m).report (s.count (.storeA m.kind)))

/-- LD (nn),SP: SP's low byte at nn, then its high byte at nn + 1 (R207, R71). -/
def execLdIndNNSP (nn : Word) (s : State) : Result :=
  .next (((s.busWrite nn (loByte s.sp)).busWrite (nn + 1) (hiByte s.sp)).report (s.count .ldIndNNSP))

/-- LD SP,HL: `sp <- xx[HL]` (R228). -/
def execLdSPHL (s : State) : Result :=
  .next ((s.setPair .SP s.hl).report (s.count .ldSPHL))

/-! ## One meaning for each row -/

/-- LD BC,nn (R200) -/
def execLdBCnn (nn : Word) (s : State) : Result := ldPairImm .BC nn s
/-- LD DE,nn (R200) -/
def execLdDEnn (nn : Word) (s : State) : Result := ldPairImm .DE nn s
/-- LD HL,nn (R200) -/
def execLdHLnn (nn : Word) (s : State) : Result := ldPairImm .HL nn s
/-- LD SP,nn (R200) -/
def execLdSPnn (nn : Word) (s : State) : Result := ldPairImm .SP nn s

/-- LD A,(BC) (R201) -/
def execLdAIndBC (s : State) : Result := loadA .indBC s
/-- LD A,(DE) (R202) -/
def execLdAIndDE (s : State) : Result := loadA .indDE s
/-- LD A,(nn) (R205) -/
def execLdAIndNN (nn : Word) (s : State) : Result := loadA (.indNN nn) s
/-- LD A,(HL+) (R222) -/
def execLdAIndHLI (s : State) : Result := loadA .indHLI s
/-- LD A,(HL-) (R223) -/
def execLdAIndHLD (s : State) : Result := loadA .indHLD s
/-- LDH A,(n) (R225) -/
def execLdhAIndN (n : Byte) (s : State) : Result := loadA (.highN n) s
/-- LD A,(C) (R227) -/
def execLdAIndC (s : State) : Result := loadA .highC s

/-- LD (BC),A (R203) -/
def execLdIndBCA (s : State) : Result := storeA .indBC s
/-- LD (DE),A (R204) -/
def execLdIndDEA (s : State) : Result := storeA .indDE s
/-- LD (nn),A (R206) -/
def execLdIndNNA (nn : Word) (s : State) : Result := storeA (.indNN nn) s
/-- LD (HL+),A (R220) -/
def execLdIndHLIA (s : State) : Result := storeA .indHLI s
/-- LD (HL-),A (R221) -/
def execLdIndHLDA (s : State) : Result := storeA .indHLD s
/-- LDH (n),A (R224) -/
def execLdhIndNA (n : Byte) (s : State) : Result := storeA (.highN n) s
/-- LD (C),A (R226) -/
def execLdIndCA (s : State) : Result := storeA .highC s

end Sys2Proof.Machine
end

