-- ==== Sys2Proof/Machine/Loads8.lean ====
section
/-! DEFINITION. NOP and the 8-bit loads between registers, immediates and the byte at HL (spec R180 to R185). -/

namespace Sys2Proof.Machine

/-! ## What the instructions of a shape do -/

/-- NOP: nothing (R180). -/
def execNop (s : State) : Result := .next (s.report (s.count .nop))

/-- LD d,r: `x[d] <- x[r]` (R181). -/
def ldRegReg (d r : Reg) (s : State) : Result :=
  .next ((s.setReg d (s.reg r)).report (s.count (.ldRegReg d r)))

/-- LD d,n: `x[d] <- n` (R182). -/
def ldRegImm (d : Reg) (n : Byte) (s : State) : Result :=
  .next ((s.setReg d n).report (s.count (.ldRegImm d)))

/-- LD d,(HL): `x[d] <- MemRead(xx[HL], 1)` (R183). -/
def ldRegIndHL (d : Reg) (s : State) : Result :=
  let (v, s1) := s.busRead s.hl
  .next ((s1.setReg d v).report (s.count (.ldRegIndHL d)))

/-- LD (HL),r: `MemWrite(xx[HL], 1, x[r])` (R184). -/
def ldIndHLReg (r : Reg) (s : State) : Result :=
  .next ((s.busWrite s.hl (s.reg r)).report (s.count (.ldIndHLReg r)))

/-- LD (HL),n: `MemWrite(xx[HL], 1, n)` (R185). -/
def execLdIndHLn (n : Byte) (s : State) : Result :=
  .next ((s.busWrite s.hl n).report (s.count .ldIndHLImm))

/-! ## One meaning for each row -/

/-- LD B,B (R181) -/
def execLdBB (s : State) : Result := ldRegReg .B .B s
/-- LD B,C (R181) -/
def execLdBC (s : State) : Result := ldRegReg .B .C s
/-- LD B,D (R181) -/
def execLdBD (s : State) : Result := ldRegReg .B .D s
/-- LD B,E (R181) -/
def execLdBE (s : State) : Result := ldRegReg .B .E s
/-- LD B,H (R181) -/
def execLdBH (s : State) : Result := ldRegReg .B .H s
/-- LD B,L (R181) -/
def execLdBL (s : State) : Result := ldRegReg .B .L s
/-- LD B,A (R181) -/
def execLdBA (s : State) : Result := ldRegReg .B .A s
/-- LD C,B (R181) -/
def execLdCB (s : State) : Result := ldRegReg .C .B s
/-- LD C,C (R181) -/
def execLdCC (s : State) : Result := ldRegReg .C .C s
/-- LD C,D (R181) -/
def execLdCD (s : State) : Result := ldRegReg .C .D s
/-- LD C,E (R181) -/
def execLdCE (s : State) : Result := ldRegReg .C .E s
/-- LD C,H (R181) -/
def execLdCH (s : State) : Result := ldRegReg .C .H s
/-- LD C,L (R181) -/
def execLdCL (s : State) : Result := ldRegReg .C .L s
/-- LD C,A (R181) -/
def execLdCA (s : State) : Result := ldRegReg .C .A s
/-- LD D,B (R181) -/
def execLdDB (s : State) : Result := ldRegReg .D .B s
/-- LD D,C (R181) -/
def execLdDC (s : State) : Result := ldRegReg .D .C s
/-- LD D,D (R181) -/
def execLdDD (s : State) : Result := ldRegReg .D .D s
/-- LD D,E (R181) -/
def execLdDE (s : State) : Result := ldRegReg .D .E s
/-- LD D,H (R181) -/
def execLdDH (s : State) : Result := ldRegReg .D .H s
/-- LD D,L (R181) -/
def execLdDL (s : State) : Result := ldRegReg .D .L s
/-- LD D,A (R181) -/
def execLdDA (s : State) : Result := ldRegReg .D .A s
/-- LD E,B (R181) -/
def execLdEB (s : State) : Result := ldRegReg .E .B s
/-- LD E,C (R181) -/
def execLdEC (s : State) : Result := ldRegReg .E .C s
/-- LD E,D (R181) -/
def execLdED (s : State) : Result := ldRegReg .E .D s
/-- LD E,E (R181) -/
def execLdEE (s : State) : Result := ldRegReg .E .E s
/-- LD E,H (R181) -/
def execLdEH (s : State) : Result := ldRegReg .E .H s
/-- LD E,L (R181) -/
def execLdEL (s : State) : Result := ldRegReg .E .L s
/-- LD E,A (R181) -/
def execLdEA (s : State) : Result := ldRegReg .E .A s
/-- LD H,B (R181) -/
def execLdHB (s : State) : Result := ldRegReg .H .B s
/-- LD H,C (R181) -/
def execLdHC (s : State) : Result := ldRegReg .H .C s
/-- LD H,D (R181) -/
def execLdHD (s : State) : Result := ldRegReg .H .D s
/-- LD H,E (R181) -/
def execLdHE (s : State) : Result := ldRegReg .H .E s
/-- LD H,H (R181) -/
def execLdHH (s : State) : Result := ldRegReg .H .H s
/-- LD H,L (R181) -/
def execLdHL (s : State) : Result := ldRegReg .H .L s
/-- LD H,A (R181) -/
def execLdHA (s : State) : Result := ldRegReg .H .A s
/-- LD L,B (R181) -/
def execLdLB (s : State) : Result := ldRegReg .L .B s
/-- LD L,C (R181) -/
def execLdLC (s : State) : Result := ldRegReg .L .C s
/-- LD L,D (R181) -/
def execLdLD (s : State) : Result := ldRegReg .L .D s
/-- LD L,E (R181) -/
def execLdLE (s : State) : Result := ldRegReg .L .E s
/-- LD L,H (R181) -/
def execLdLH (s : State) : Result := ldRegReg .L .H s
/-- LD L,L (R181) -/
def execLdLL (s : State) : Result := ldRegReg .L .L s
/-- LD L,A (R181) -/
def execLdLA (s : State) : Result := ldRegReg .L .A s
/-- LD A,B (R181) -/
def execLdAB (s : State) : Result := ldRegReg .A .B s
/-- LD A,C (R181) -/
def execLdAC (s : State) : Result := ldRegReg .A .C s
/-- LD A,D (R181) -/
def execLdAD (s : State) : Result := ldRegReg .A .D s
/-- LD A,E (R181) -/
def execLdAE (s : State) : Result := ldRegReg .A .E s
/-- LD A,H (R181) -/
def execLdAH (s : State) : Result := ldRegReg .A .H s
/-- LD A,L (R181) -/
def execLdAL (s : State) : Result := ldRegReg .A .L s
/-- LD A,A (R181) -/
def execLdAA (s : State) : Result := ldRegReg .A .A s

/-- LD B,n (R182) -/
def execLdBn (n : Byte) (s : State) : Result := ldRegImm .B n s
/-- LD C,n (R182) -/
def execLdCn (n : Byte) (s : State) : Result := ldRegImm .C n s
/-- LD D,n (R182) -/
def execLdDn (n : Byte) (s : State) : Result := ldRegImm .D n s
/-- LD E,n (R182) -/
def execLdEn (n : Byte) (s : State) : Result := ldRegImm .E n s
/-- LD H,n (R182) -/
def execLdHn (n : Byte) (s : State) : Result := ldRegImm .H n s
/-- LD L,n (R182) -/
def execLdLn (n : Byte) (s : State) : Result := ldRegImm .L n s
/-- LD A,n (R182) -/
def execLdAn (n : Byte) (s : State) : Result := ldRegImm .A n s

/-- LD B,(HL) (R183) -/
def execLdBIndHL (s : State) : Result := ldRegIndHL .B s
/-- LD C,(HL) (R183) -/
def execLdCIndHL (s : State) : Result := ldRegIndHL .C s
/-- LD D,(HL) (R183) -/
def execLdDIndHL (s : State) : Result := ldRegIndHL .D s
/-- LD E,(HL) (R183) -/
def execLdEIndHL (s : State) : Result := ldRegIndHL .E s
/-- LD H,(HL) (R183) -/
def execLdHIndHL (s : State) : Result := ldRegIndHL .H s
/-- LD L,(HL) (R183) -/
def execLdLIndHL (s : State) : Result := ldRegIndHL .L s
/-- LD A,(HL) (R183) -/
def execLdAIndHL (s : State) : Result := ldRegIndHL .A s

/-- LD (HL),B (R184) -/
def execLdIndHLB (s : State) : Result := ldIndHLReg .B s
/-- LD (HL),C (R184) -/
def execLdIndHLC (s : State) : Result := ldIndHLReg .C s
/-- LD (HL),D (R184) -/
def execLdIndHLD (s : State) : Result := ldIndHLReg .D s
/-- LD (HL),E (R184) -/
def execLdIndHLE (s : State) : Result := ldIndHLReg .E s
/-- LD (HL),H (R184) -/
def execLdIndHLH (s : State) : Result := ldIndHLReg .H s
/-- LD (HL),L (R184) -/
def execLdIndHLL (s : State) : Result := ldIndHLReg .L s
/-- LD (HL),A (R184) -/
def execLdIndHLA (s : State) : Result := ldIndHLReg .A s

end Sys2Proof.Machine
end

