-- ==== Sys2Proof/Machine/Misc.lean ====
section
/-! DEFINITION. Accumulator rotates, decimal adjust, flag operations and processor control (spec R360 to R372), and the
undefined-opcode handler (R374). -/

namespace Sys2Proof.Machine

/-! ## What the instructions of a shape do -/

/-- RLCA, RRCA, RLA, RRA (R360 to R363). -/
def accRot (op : RotOp) (s : State) : Result :=
  let (v, f) := rotateA op s.regs.a s.flags.c
  .next (((s.setReg .A v).setFlags f).report (s.count (.accRot op)))

/-- DAA (R364). -/
def execDaa (s : State) : Result :=
  let (v, f) := daa s.regs.a s.flags
  .next (((s.setReg .A v).setFlags f).report (s.count .daa))

/-- CPL: Z and C unchanged (R365). -/
def execCpl (s : State) : Result :=
  .next (((s.setReg .A (wrap8 (255 - s.regs.a.toNat))).setFlags { s.flags with n := true, h := true }).report
    (s.count .cpl))

/-- SCF: Z unchanged (R366). -/
def execScf (s : State) : Result :=
  .next ((s.setFlags { s.flags with n := false, h := false, c := true }).report (s.count .scf))

/-- CCF: Z unchanged (R367). -/
def execCcf (s : State) : Result :=
  .next ((s.setFlags { s.flags with n := false, h := false, c := !s.flags.c }).report (s.count .ccf))

/-- HALT. Under IRQ = canonical it reads IE and IF; with IME clear, no EI in flight and an enabled request
pending it is the HALT bug, refused or taken as HALT_BUG says; otherwise the core halts (R368, R369). -/
def execHalt (s : State) : Result :=
  match s.params.irq with
  | .none => .next ({ s with halted := true }.report (s.count .halt))
  | .canonical =>
    let (pending, _, s1) := s.samplePending
    if s.ime = false ∧ s.eiDelay = false ∧ pending ≠ 0 then
      match s.params.haltBug with
      | .refuse => .refused (.haltBugNotModelled 0x76)
      | .canonical => .next ({ s1 with haltBug := true }.report (s.count .halt))
    else .next ({ s1 with halted := true }.report (s.count .halt))

/-- STOP: the pad byte, fetched, is ignored; refused or taken as STOP_MODE says (R370). -/
def execStop (_pad : Byte) (s : State) : Result :=
  match s.params.stop with
  | .refuse => .refused (.stopNotModelled 0x10)
  | .stopped => .next ({ s with stopped := true }.report (s.count .stop))

/-- DI: IME and a pending EI cleared at once (R371). -/
def execDi (s : State) : Result :=
  .next ({ s with ime := false, eiDelay := false }.report (s.count .di))

/-- EI: IME follows at the end of the next instruction (R372). -/
def execEi (s : State) : Result := .next ({ s with eiDelay := true }.report (s.count .ei))

/-- UNDEFINED (R374). -/
def execUndefined (op : Byte) (s : State) : Result := s.raiseUndefinedOpcode op

/-! ## One meaning for each row -/

/-- RLCA (R360) -/
def execRlca (s : State) : Result := accRot .rlc s
/-- RRCA (R361) -/
def execRrca (s : State) : Result := accRot .rrc s
/-- RLA (R362) -/
def execRla (s : State) : Result := accRot .rl s
/-- RRA (R363) -/
def execRra (s : State) : Result := accRot .rr s

end Sys2Proof.Machine
end

