-- ==== Sys2Proof/Syntax.lean ====
section
/-! DEFINITION. The instructions: one constructor for every mnemonic of spec/opcode_table.json (spec R111,
R118, R390); those with operand bytes first, each group in the table's order. A constructor's arguments are the instruction's operand bytes (R105,
R107 to R109): `n` unsigned, `e` a raw displacement byte, `nn` a 16-bit immediate. The eleven UNDEFINED rows
are one constructor that carries its opcode byte (R374). -/

namespace Sys2Proof

/-- The opcode table's instructions; the comment beside each is the name the spec's text uses and its rule. -/
inductive Instr where
  | ldBCnn (nn : Word)       -- LD BC,nn, R200
  | ldBn (n : Byte)          -- LD B,n, R182
  | ldIndNNSP (nn : Word)    -- LD (nn),SP, R207
  | ldCn (n : Byte)          -- LD C,n, R182
  | stop (pad : Byte)        -- STOP, R370
  | ldDEnn (nn : Word)       -- LD DE,nn, R200
  | ldDn (n : Byte)          -- LD D,n, R182
  | jrE (e : Byte)           -- JR e, R334
  | ldEn (n : Byte)          -- LD E,n, R182
  | jrNZe (e : Byte)         -- JR NZ,e, R335
  | ldHLnn (nn : Word)       -- LD HL,nn, R200
  | ldHn (n : Byte)          -- LD H,n, R182
  | jrZe (e : Byte)          -- JR Z,e, R335
  | ldLn (n : Byte)          -- LD L,n, R182
  | jrNCe (e : Byte)         -- JR NC,e, R335
  | ldSPnn (nn : Word)       -- LD SP,nn, R200
  | ldIndHLn (n : Byte)      -- LD (HL),n, R185
  | jrCe (e : Byte)          -- JR C,e, R335
  | ldAn (n : Byte)          -- LD A,n, R182
  | jpNZnn (nn : Word)       -- JP NZ,nn, R332
  | jpNn (nn : Word)         -- JP nn, R331
  | callNZnn (nn : Word)     -- CALL NZ,nn, R337
  | addAn (n : Byte)         -- ADD A,n, R262
  | jpZnn (nn : Word)        -- JP Z,nn, R332
  | callZnn (nn : Word)      -- CALL Z,nn, R337
  | callNn (nn : Word)       -- CALL nn, R336
  | adcAn (n : Byte)         -- ADC A,n, R265
  | jpNCnn (nn : Word)       -- JP NC,nn, R332
  | undefined (op : Byte)    -- UNDEFINED, R374
  | callNCnn (nn : Word)     -- CALL NC,nn, R337
  | subAn (n : Byte)         -- SUB A,n, R268
  | jpCnn (nn : Word)        -- JP C,nn, R332
  | callCnn (nn : Word)      -- CALL C,nn, R337
  | sbcAn (n : Byte)         -- SBC A,n, R271
  | ldhIndNA (n : Byte)      -- LDH (n),A, R224
  | andAn (n : Byte)         -- AND A,n, R274
  | addSPe (e : Byte)        -- ADD SP,e, R301
  | ldIndNNA (nn : Word)     -- LD (nn),A, R206
  | xorAn (n : Byte)         -- XOR A,n, R277
  | ldhAIndN (n : Byte)      -- LDH A,(n), R225
  | orAn (n : Byte)          -- OR A,n, R280
  | ldHLSPe (e : Byte)       -- LD HL,SP+e, R302
  | ldAIndNN (nn : Word)     -- LD A,(nn), R205
  | cpAn (n : Byte)          -- CP A,n, R283
  | nop                      -- NOP, R180
  | ldIndBCA                 -- LD (BC),A, R203
  | incBC                    -- INC BC, R244
  | incB                     -- INC B, R240
  | decB                     -- DEC B, R242
  | rlca                     -- RLCA, R360
  | addHLBC                  -- ADD HL,BC, R300
  | ldAIndBC                 -- LD A,(BC), R201
  | decBC                    -- DEC BC, R245
  | incC                     -- INC C, R240
  | decC                     -- DEC C, R242
  | rrca                     -- RRCA, R361
  | ldIndDEA                 -- LD (DE),A, R204
  | incDE                    -- INC DE, R244
  | incD                     -- INC D, R240
  | decD                     -- DEC D, R242
  | rla                      -- RLA, R362
  | addHLDE                  -- ADD HL,DE, R300
  | ldAIndDE                 -- LD A,(DE), R202
  | decDE                    -- DEC DE, R245
  | incE                     -- INC E, R240
  | decE                     -- DEC E, R242
  | rra                      -- RRA, R363
  | ldIndHLIA                -- LD (HL+),A, R220
  | incHL                    -- INC HL, R244
  | incH                     -- INC H, R240
  | decH                     -- DEC H, R242
  | daa                      -- DAA, R364
  | addHLHL                  -- ADD HL,HL, R300
  | ldAIndHLI                -- LD A,(HL+), R222
  | decHL                    -- DEC HL, R245
  | incL                     -- INC L, R240
  | decL                     -- DEC L, R242
  | cpl                      -- CPL, R365
  | ldIndHLDA                -- LD (HL-),A, R221
  | incSP                    -- INC SP, R244
  | incIndHL                 -- INC (HL), R241
  | decIndHL                 -- DEC (HL), R243
  | scf                      -- SCF, R366
  | addHLSP                  -- ADD HL,SP, R300
  | ldAIndHLD                -- LD A,(HL-), R223
  | decSP                    -- DEC SP, R245
  | incA                     -- INC A, R240
  | decA                     -- DEC A, R242
  | ccf                      -- CCF, R367
  | ldBB                     -- LD B,B, R181
  | ldBC                     -- LD B,C, R181
  | ldBD                     -- LD B,D, R181
  | ldBE                     -- LD B,E, R181
  | ldBH                     -- LD B,H, R181
  | ldBL                     -- LD B,L, R181
  | ldBIndHL                 -- LD B,(HL), R183
  | ldBA                     -- LD B,A, R181
  | ldCB                     -- LD C,B, R181
  | ldCC                     -- LD C,C, R181
  | ldCD                     -- LD C,D, R181
  | ldCE                     -- LD C,E, R181
  | ldCH                     -- LD C,H, R181
  | ldCL                     -- LD C,L, R181
  | ldCIndHL                 -- LD C,(HL), R183
  | ldCA                     -- LD C,A, R181
  | ldDB                     -- LD D,B, R181
  | ldDC                     -- LD D,C, R181
  | ldDD                     -- LD D,D, R181
  | ldDE                     -- LD D,E, R181
  | ldDH                     -- LD D,H, R181
  | ldDL                     -- LD D,L, R181
  | ldDIndHL                 -- LD D,(HL), R183
  | ldDA                     -- LD D,A, R181
  | ldEB                     -- LD E,B, R181
  | ldEC                     -- LD E,C, R181
  | ldED                     -- LD E,D, R181
  | ldEE                     -- LD E,E, R181
  | ldEH                     -- LD E,H, R181
  | ldEL                     -- LD E,L, R181
  | ldEIndHL                 -- LD E,(HL), R183
  | ldEA                     -- LD E,A, R181
  | ldHB                     -- LD H,B, R181
  | ldHC                     -- LD H,C, R181
  | ldHD                     -- LD H,D, R181
  | ldHE                     -- LD H,E, R181
  | ldHH                     -- LD H,H, R181
  | ldHL                     -- LD H,L, R181
  | ldHIndHL                 -- LD H,(HL), R183
  | ldHA                     -- LD H,A, R181
  | ldLB                     -- LD L,B, R181
  | ldLC                     -- LD L,C, R181
  | ldLD                     -- LD L,D, R181
  | ldLE                     -- LD L,E, R181
  | ldLH                     -- LD L,H, R181
  | ldLL                     -- LD L,L, R181
  | ldLIndHL                 -- LD L,(HL), R183
  | ldLA                     -- LD L,A, R181
  | ldIndHLB                 -- LD (HL),B, R184
  | ldIndHLC                 -- LD (HL),C, R184
  | ldIndHLD                 -- LD (HL),D, R184
  | ldIndHLE                 -- LD (HL),E, R184
  | ldIndHLH                 -- LD (HL),H, R184
  | ldIndHLL                 -- LD (HL),L, R184
  | halt                     -- HALT, R368
  | ldIndHLA                 -- LD (HL),A, R184
  | ldAB                     -- LD A,B, R181
  | ldAC                     -- LD A,C, R181
  | ldAD                     -- LD A,D, R181
  | ldAE                     -- LD A,E, R181
  | ldAH                     -- LD A,H, R181
  | ldAL                     -- LD A,L, R181
  | ldAIndHL                 -- LD A,(HL), R183
  | ldAA                     -- LD A,A, R181
  | addAB                    -- ADD A,B, R260
  | addAC                    -- ADD A,C, R260
  | addAD                    -- ADD A,D, R260
  | addAE                    -- ADD A,E, R260
  | addAH                    -- ADD A,H, R260
  | addAL                    -- ADD A,L, R260
  | addAIndHL                -- ADD A,(HL), R261
  | addAA                    -- ADD A,A, R260
  | adcAB                    -- ADC A,B, R263
  | adcAC                    -- ADC A,C, R263
  | adcAD                    -- ADC A,D, R263
  | adcAE                    -- ADC A,E, R263
  | adcAH                    -- ADC A,H, R263
  | adcAL                    -- ADC A,L, R263
  | adcAIndHL                -- ADC A,(HL), R264
  | adcAA                    -- ADC A,A, R263
  | subAB                    -- SUB A,B, R266
  | subAC                    -- SUB A,C, R266
  | subAD                    -- SUB A,D, R266
  | subAE                    -- SUB A,E, R266
  | subAH                    -- SUB A,H, R266
  | subAL                    -- SUB A,L, R266
  | subAIndHL                -- SUB A,(HL), R267
  | subAA                    -- SUB A,A, R266
  | sbcAB                    -- SBC A,B, R269
  | sbcAC                    -- SBC A,C, R269
  | sbcAD                    -- SBC A,D, R269
  | sbcAE                    -- SBC A,E, R269
  | sbcAH                    -- SBC A,H, R269
  | sbcAL                    -- SBC A,L, R269
  | sbcAIndHL                -- SBC A,(HL), R270
  | sbcAA                    -- SBC A,A, R269
  | andAB                    -- AND A,B, R272
  | andAC                    -- AND A,C, R272
  | andAD                    -- AND A,D, R272
  | andAE                    -- AND A,E, R272
  | andAH                    -- AND A,H, R272
  | andAL                    -- AND A,L, R272
  | andAIndHL                -- AND A,(HL), R273
  | andAA                    -- AND A,A, R272
  | xorAB                    -- XOR A,B, R275
  | xorAC                    -- XOR A,C, R275
  | xorAD                    -- XOR A,D, R275
  | xorAE                    -- XOR A,E, R275
  | xorAH                    -- XOR A,H, R275
  | xorAL                    -- XOR A,L, R275
  | xorAIndHL                -- XOR A,(HL), R276
  | xorAA                    -- XOR A,A, R275
  | orAB                     -- OR A,B, R278
  | orAC                     -- OR A,C, R278
  | orAD                     -- OR A,D, R278
  | orAE                     -- OR A,E, R278
  | orAH                     -- OR A,H, R278
  | orAL                     -- OR A,L, R278
  | orAIndHL                 -- OR A,(HL), R279
  | orAA                     -- OR A,A, R278
  | cpAB                     -- CP A,B, R281
  | cpAC                     -- CP A,C, R281
  | cpAD                     -- CP A,D, R281
  | cpAE                     -- CP A,E, R281
  | cpAH                     -- CP A,H, R281
  | cpAL                     -- CP A,L, R281
  | cpAIndHL                 -- CP A,(HL), R282
  | cpAA                     -- CP A,A, R281
  | retNZ                    -- RET NZ, R339
  | popBC                    -- POP BC, R313
  | pushBC                   -- PUSH BC, R312
  | rst00                    -- RST 0x00, R341
  | retZ                     -- RET Z, R339
  | ret                      -- RET, R338
  | prefixCb                 -- PREFIX CB, R373
  | rst08                    -- RST 0x08, R341
  | retNC                    -- RET NC, R339
  | popDE                    -- POP DE, R313
  | pushDE                   -- PUSH DE, R312
  | rst10                    -- RST 0x10, R341
  | retC                     -- RET C, R339
  | reti                     -- RETI, R340
  | rst18                    -- RST 0x18, R341
  | popHL                    -- POP HL, R313
  | ldIndCA                  -- LD (C),A, R226
  | pushHL                   -- PUSH HL, R312
  | rst20                    -- RST 0x20, R341
  | jpHL                     -- JP HL, R333
  | rst28                    -- RST 0x28, R341
  | popAF                    -- POP AF, R315
  | ldAIndC                  -- LD A,(C), R227
  | di                       -- DI, R371
  | pushAF                   -- PUSH AF, R314
  | rst30                    -- RST 0x30, R341
  | ldSPHL                   -- LD SP,HL, R228
  | ei                       -- EI, R372
  | rst38                    -- RST 0x38, R341
  | rlcB                     -- RLC B, R391
  | rlcC                     -- RLC C, R391
  | rlcD                     -- RLC D, R391
  | rlcE                     -- RLC E, R391
  | rlcH                     -- RLC H, R391
  | rlcL                     -- RLC L, R391
  | rlcIndHL                 -- RLC (HL), R392
  | rlcA                     -- RLC A, R391
  | rrcB                     -- RRC B, R393
  | rrcC                     -- RRC C, R393
  | rrcD                     -- RRC D, R393
  | rrcE                     -- RRC E, R393
  | rrcH                     -- RRC H, R393
  | rrcL                     -- RRC L, R393
  | rrcIndHL                 -- RRC (HL), R394
  | rrcA                     -- RRC A, R393
  | rlB                      -- RL B, R395
  | rlC                      -- RL C, R395
  | rlD                      -- RL D, R395
  | rlE                      -- RL E, R395
  | rlH                      -- RL H, R395
  | rlL                      -- RL L, R395
  | rlIndHL                  -- RL (HL), R396
  | rlA                      -- RL A, R395
  | rrB                      -- RR B, R397
  | rrC                      -- RR C, R397
  | rrD                      -- RR D, R397
  | rrE                      -- RR E, R397
  | rrH                      -- RR H, R397
  | rrL                      -- RR L, R397
  | rrIndHL                  -- RR (HL), R398
  | rrA                      -- RR A, R397
  | slaB                     -- SLA B, R399
  | slaC                     -- SLA C, R399
  | slaD                     -- SLA D, R399
  | slaE                     -- SLA E, R399
  | slaH                     -- SLA H, R399
  | slaL                     -- SLA L, R399
  | slaIndHL                 -- SLA (HL), R400
  | slaA                     -- SLA A, R399
  | sraB                     -- SRA B, R401
  | sraC                     -- SRA C, R401
  | sraD                     -- SRA D, R401
  | sraE                     -- SRA E, R401
  | sraH                     -- SRA H, R401
  | sraL                     -- SRA L, R401
  | sraIndHL                 -- SRA (HL), R402
  | sraA                     -- SRA A, R401
  | swapB                    -- SWAP B, R403
  | swapC                    -- SWAP C, R403
  | swapD                    -- SWAP D, R403
  | swapE                    -- SWAP E, R403
  | swapH                    -- SWAP H, R403
  | swapL                    -- SWAP L, R403
  | swapIndHL                -- SWAP (HL), R404
  | swapA                    -- SWAP A, R403
  | srlB                     -- SRL B, R405
  | srlC                     -- SRL C, R405
  | srlD                     -- SRL D, R405
  | srlE                     -- SRL E, R405
  | srlH                     -- SRL H, R405
  | srlL                     -- SRL L, R405
  | srlIndHL                 -- SRL (HL), R406
  | srlA                     -- SRL A, R405
  | bit0B                    -- BIT 0,B, R407
  | bit0C                    -- BIT 0,C, R407
  | bit0D                    -- BIT 0,D, R407
  | bit0E                    -- BIT 0,E, R407
  | bit0H                    -- BIT 0,H, R407
  | bit0L                    -- BIT 0,L, R407
  | bit0IndHL                -- BIT 0,(HL), R408
  | bit0A                    -- BIT 0,A, R407
  | bit1B                    -- BIT 1,B, R407
  | bit1C                    -- BIT 1,C, R407
  | bit1D                    -- BIT 1,D, R407
  | bit1E                    -- BIT 1,E, R407
  | bit1H                    -- BIT 1,H, R407
  | bit1L                    -- BIT 1,L, R407
  | bit1IndHL                -- BIT 1,(HL), R408
  | bit1A                    -- BIT 1,A, R407
  | bit2B                    -- BIT 2,B, R407
  | bit2C                    -- BIT 2,C, R407
  | bit2D                    -- BIT 2,D, R407
  | bit2E                    -- BIT 2,E, R407
  | bit2H                    -- BIT 2,H, R407
  | bit2L                    -- BIT 2,L, R407
  | bit2IndHL                -- BIT 2,(HL), R408
  | bit2A                    -- BIT 2,A, R407
  | bit3B                    -- BIT 3,B, R407
  | bit3C                    -- BIT 3,C, R407
  | bit3D                    -- BIT 3,D, R407
  | bit3E                    -- BIT 3,E, R407
  | bit3H                    -- BIT 3,H, R407
  | bit3L                    -- BIT 3,L, R407
  | bit3IndHL                -- BIT 3,(HL), R408
  | bit3A                    -- BIT 3,A, R407
  | bit4B                    -- BIT 4,B, R407
  | bit4C                    -- BIT 4,C, R407
  | bit4D                    -- BIT 4,D, R407
  | bit4E                    -- BIT 4,E, R407
  | bit4H                    -- BIT 4,H, R407
  | bit4L                    -- BIT 4,L, R407
  | bit4IndHL                -- BIT 4,(HL), R408
  | bit4A                    -- BIT 4,A, R407
  | bit5B                    -- BIT 5,B, R407
  | bit5C                    -- BIT 5,C, R407
  | bit5D                    -- BIT 5,D, R407
  | bit5E                    -- BIT 5,E, R407
  | bit5H                    -- BIT 5,H, R407
  | bit5L                    -- BIT 5,L, R407
  | bit5IndHL                -- BIT 5,(HL), R408
  | bit5A                    -- BIT 5,A, R407
  | bit6B                    -- BIT 6,B, R407
  | bit6C                    -- BIT 6,C, R407
  | bit6D                    -- BIT 6,D, R407
  | bit6E                    -- BIT 6,E, R407
  | bit6H                    -- BIT 6,H, R407
  | bit6L                    -- BIT 6,L, R407
  | bit6IndHL                -- BIT 6,(HL), R408
  | bit6A                    -- BIT 6,A, R407
  | bit7B                    -- BIT 7,B, R407
  | bit7C                    -- BIT 7,C, R407
  | bit7D                    -- BIT 7,D, R407
  | bit7E                    -- BIT 7,E, R407
  | bit7H                    -- BIT 7,H, R407
  | bit7L                    -- BIT 7,L, R407
  | bit7IndHL                -- BIT 7,(HL), R408
  | bit7A                    -- BIT 7,A, R407
  | res0B                    -- RES 0,B, R409
  | res0C                    -- RES 0,C, R409
  | res0D                    -- RES 0,D, R409
  | res0E                    -- RES 0,E, R409
  | res0H                    -- RES 0,H, R409
  | res0L                    -- RES 0,L, R409
  | res0IndHL                -- RES 0,(HL), R410
  | res0A                    -- RES 0,A, R409
  | res1B                    -- RES 1,B, R409
  | res1C                    -- RES 1,C, R409
  | res1D                    -- RES 1,D, R409
  | res1E                    -- RES 1,E, R409
  | res1H                    -- RES 1,H, R409
  | res1L                    -- RES 1,L, R409
  | res1IndHL                -- RES 1,(HL), R410
  | res1A                    -- RES 1,A, R409
  | res2B                    -- RES 2,B, R409
  | res2C                    -- RES 2,C, R409
  | res2D                    -- RES 2,D, R409
  | res2E                    -- RES 2,E, R409
  | res2H                    -- RES 2,H, R409
  | res2L                    -- RES 2,L, R409
  | res2IndHL                -- RES 2,(HL), R410
  | res2A                    -- RES 2,A, R409
  | res3B                    -- RES 3,B, R409
  | res3C                    -- RES 3,C, R409
  | res3D                    -- RES 3,D, R409
  | res3E                    -- RES 3,E, R409
  | res3H                    -- RES 3,H, R409
  | res3L                    -- RES 3,L, R409
  | res3IndHL                -- RES 3,(HL), R410
  | res3A                    -- RES 3,A, R409
  | res4B                    -- RES 4,B, R409
  | res4C                    -- RES 4,C, R409
  | res4D                    -- RES 4,D, R409
  | res4E                    -- RES 4,E, R409
  | res4H                    -- RES 4,H, R409
  | res4L                    -- RES 4,L, R409
  | res4IndHL                -- RES 4,(HL), R410
  | res4A                    -- RES 4,A, R409
  | res5B                    -- RES 5,B, R409
  | res5C                    -- RES 5,C, R409
  | res5D                    -- RES 5,D, R409
  | res5E                    -- RES 5,E, R409
  | res5H                    -- RES 5,H, R409
  | res5L                    -- RES 5,L, R409
  | res5IndHL                -- RES 5,(HL), R410
  | res5A                    -- RES 5,A, R409
  | res6B                    -- RES 6,B, R409
  | res6C                    -- RES 6,C, R409
  | res6D                    -- RES 6,D, R409
  | res6E                    -- RES 6,E, R409
  | res6H                    -- RES 6,H, R409
  | res6L                    -- RES 6,L, R409
  | res6IndHL                -- RES 6,(HL), R410
  | res6A                    -- RES 6,A, R409
  | res7B                    -- RES 7,B, R409
  | res7C                    -- RES 7,C, R409
  | res7D                    -- RES 7,D, R409
  | res7E                    -- RES 7,E, R409
  | res7H                    -- RES 7,H, R409
  | res7L                    -- RES 7,L, R409
  | res7IndHL                -- RES 7,(HL), R410
  | res7A                    -- RES 7,A, R409
  | set0B                    -- SET 0,B, R411
  | set0C                    -- SET 0,C, R411
  | set0D                    -- SET 0,D, R411
  | set0E                    -- SET 0,E, R411
  | set0H                    -- SET 0,H, R411
  | set0L                    -- SET 0,L, R411
  | set0IndHL                -- SET 0,(HL), R412
  | set0A                    -- SET 0,A, R411
  | set1B                    -- SET 1,B, R411
  | set1C                    -- SET 1,C, R411
  | set1D                    -- SET 1,D, R411
  | set1E                    -- SET 1,E, R411
  | set1H                    -- SET 1,H, R411
  | set1L                    -- SET 1,L, R411
  | set1IndHL                -- SET 1,(HL), R412
  | set1A                    -- SET 1,A, R411
  | set2B                    -- SET 2,B, R411
  | set2C                    -- SET 2,C, R411
  | set2D                    -- SET 2,D, R411
  | set2E                    -- SET 2,E, R411
  | set2H                    -- SET 2,H, R411
  | set2L                    -- SET 2,L, R411
  | set2IndHL                -- SET 2,(HL), R412
  | set2A                    -- SET 2,A, R411
  | set3B                    -- SET 3,B, R411
  | set3C                    -- SET 3,C, R411
  | set3D                    -- SET 3,D, R411
  | set3E                    -- SET 3,E, R411
  | set3H                    -- SET 3,H, R411
  | set3L                    -- SET 3,L, R411
  | set3IndHL                -- SET 3,(HL), R412
  | set3A                    -- SET 3,A, R411
  | set4B                    -- SET 4,B, R411
  | set4C                    -- SET 4,C, R411
  | set4D                    -- SET 4,D, R411
  | set4E                    -- SET 4,E, R411
  | set4H                    -- SET 4,H, R411
  | set4L                    -- SET 4,L, R411
  | set4IndHL                -- SET 4,(HL), R412
  | set4A                    -- SET 4,A, R411
  | set5B                    -- SET 5,B, R411
  | set5C                    -- SET 5,C, R411
  | set5D                    -- SET 5,D, R411
  | set5E                    -- SET 5,E, R411
  | set5H                    -- SET 5,H, R411
  | set5L                    -- SET 5,L, R411
  | set5IndHL                -- SET 5,(HL), R412
  | set5A                    -- SET 5,A, R411
  | set6B                    -- SET 6,B, R411
  | set6C                    -- SET 6,C, R411
  | set6D                    -- SET 6,D, R411
  | set6E                    -- SET 6,E, R411
  | set6H                    -- SET 6,H, R411
  | set6L                    -- SET 6,L, R411
  | set6IndHL                -- SET 6,(HL), R412
  | set6A                    -- SET 6,A, R411
  | set7B                    -- SET 7,B, R411
  | set7C                    -- SET 7,C, R411
  | set7D                    -- SET 7,D, R411
  | set7E                    -- SET 7,E, R411
  | set7H                    -- SET 7,H, R411
  | set7L                    -- SET 7,L, R411
  | set7IndHL                -- SET 7,(HL), R412
  | set7A                    -- SET 7,A, R411
  deriving DecidableEq, Repr

end Sys2Proof
end

