-- ==== Sys2Proof/WellFormed.lean ====
section
/-! DEFINITION. Which terms of `Instr` are instructions. Every operand byte value is legal (spec R114), so
the one check is that UNDEFINED carries one of the eleven bytes of spec R113. -/

namespace Sys2Proof

/-- The eleven opcode bytes that have no instruction (R113, R374, R420). -/
def undefinedOpcodes : List Byte :=
  [0xD3, 0xDB, 0xDD, 0xE3, 0xE4, 0xEB, 0xEC, 0xED, 0xF4, 0xFC, 0xFD]

/-- The term stands for an instruction of the table. -/
def Instr.wf : Instr → Bool
  | .undefined op => undefinedOpcodes.contains op
  | _ => true

end Sys2Proof
end

