-- ==== Sys2Proof/Decode.lean ====
section
/-! DEFINITION. The decoder, by the bit fields of spec R106, R112 and R390; the tier of an opcode byte (spec R111);
and the encoder, by the grid of spec R111 and the encodings of the instruction rules. -/

namespace Sys2Proof

open Sys2Proof.Machine (word hiByte loByte fieldX fieldY fieldZ)

/-! ## The table's rows by their operands: which constructor each choice of operands is -/

/-- LD d,r (R181). -/
def Row.ldRegReg (d r : Reg) : Instr :=
  match d, r with
  | .B, .B => .ldBB
  | .B, .C => .ldBC
  | .B, .D => .ldBD
  | .B, .E => .ldBE
  | .B, .H => .ldBH
  | .B, .L => .ldBL
  | .B, .A => .ldBA
  | .C, .B => .ldCB
  | .C, .C => .ldCC
  | .C, .D => .ldCD
  | .C, .E => .ldCE
  | .C, .H => .ldCH
  | .C, .L => .ldCL
  | .C, .A => .ldCA
  | .D, .B => .ldDB
  | .D, .C => .ldDC
  | .D, .D => .ldDD
  | .D, .E => .ldDE
  | .D, .H => .ldDH
  | .D, .L => .ldDL
  | .D, .A => .ldDA
  | .E, .B => .ldEB
  | .E, .C => .ldEC
  | .E, .D => .ldED
  | .E, .E => .ldEE
  | .E, .H => .ldEH
  | .E, .L => .ldEL
  | .E, .A => .ldEA
  | .H, .B => .ldHB
  | .H, .C => .ldHC
  | .H, .D => .ldHD
  | .H, .E => .ldHE
  | .H, .H => .ldHH
  | .H, .L => .ldHL
  | .H, .A => .ldHA
  | .L, .B => .ldLB
  | .L, .C => .ldLC
  | .L, .D => .ldLD
  | .L, .E => .ldLE
  | .L, .H => .ldLH
  | .L, .L => .ldLL
  | .L, .A => .ldLA
  | .A, .B => .ldAB
  | .A, .C => .ldAC
  | .A, .D => .ldAD
  | .A, .E => .ldAE
  | .A, .H => .ldAH
  | .A, .L => .ldAL
  | .A, .A => .ldAA

/-- LD d,n (R182). -/
def Row.ldRegImm (d : Reg) (n : Byte) : Instr :=
  match d, n with
  | .B, n => .ldBn n
  | .C, n => .ldCn n
  | .D, n => .ldDn n
  | .E, n => .ldEn n
  | .H, n => .ldHn n
  | .L, n => .ldLn n
  | .A, n => .ldAn n

/-- LD d,(HL) (R183). -/
def Row.ldRegIndHL (d : Reg) : Instr :=
  match d with
  | .B => .ldBIndHL
  | .C => .ldCIndHL
  | .D => .ldDIndHL
  | .E => .ldEIndHL
  | .H => .ldHIndHL
  | .L => .ldLIndHL
  | .A => .ldAIndHL

/-- LD (HL),r (R184). -/
def Row.ldIndHLReg (r : Reg) : Instr :=
  match r with
  | .B => .ldIndHLB
  | .C => .ldIndHLC
  | .D => .ldIndHLD
  | .E => .ldIndHLE
  | .H => .ldIndHLH
  | .L => .ldIndHLL
  | .A => .ldIndHLA

/-- LD rr,nn (R200). -/
def Row.ldPairImm (p : Pair) (nn : Word) : Instr :=
  match p, nn with
  | .BC, nn => .ldBCnn nn
  | .DE, nn => .ldDEnn nn
  | .HL, nn => .ldHLnn nn
  | .SP, nn => .ldSPnn nn

/-- LD A,(BC); LD A,(DE); LD A,(nn); LD A,(HL+); LD A,(HL-); LDH A,(n); LD A,(C) (R201, R202, R205, R222, R223, R225, R227). -/
def Row.loadA (m : AddrForm) : Instr :=
  match m with
  | .indBC => .ldAIndBC
  | .indDE => .ldAIndDE
  | .indNN nn => .ldAIndNN nn
  | .indHLI => .ldAIndHLI
  | .indHLD => .ldAIndHLD
  | .highN n => .ldhAIndN n
  | .highC => .ldAIndC

/-- LD (BC),A; LD (DE),A; LD (nn),A; LD (HL+),A; LD (HL-),A; LDH (n),A; LD (C),A (R203, R204, R206, R220, R221, R224, R226). -/
def Row.storeA (m : AddrForm) : Instr :=
  match m with
  | .indBC => .ldIndBCA
  | .indDE => .ldIndDEA
  | .indNN nn => .ldIndNNA nn
  | .indHLI => .ldIndHLIA
  | .indHLD => .ldIndHLDA
  | .highN n => .ldhIndNA n
  | .highC => .ldIndCA

/-- INC x (x a register or the byte at HL; R240, R241). -/
def Row.inc (x : Operand) : Instr :=
  match x with
  | .reg .B => .incB
  | .reg .C => .incC
  | .reg .D => .incD
  | .reg .E => .incE
  | .reg .H => .incH
  | .reg .L => .incL
  | .indHL => .incIndHL
  | .reg .A => .incA

/-- DEC x (x a register or the byte at HL; R242, R243). -/
def Row.dec (x : Operand) : Instr :=
  match x with
  | .reg .B => .decB
  | .reg .C => .decC
  | .reg .D => .decD
  | .reg .E => .decE
  | .reg .H => .decH
  | .reg .L => .decL
  | .indHL => .decIndHL
  | .reg .A => .decA

/-- INC rr (R244). -/
def Row.incPair (p : Pair) : Instr :=
  match p with
  | .BC => .incBC
  | .DE => .incDE
  | .HL => .incHL
  | .SP => .incSP

/-- DEC rr (R245). -/
def Row.decPair (p : Pair) : Instr :=
  match p with
  | .BC => .decBC
  | .DE => .decDE
  | .HL => .decHL
  | .SP => .decSP

/-- ADD HL,rr (R300). -/
def Row.addHL (p : Pair) : Instr :=
  match p with
  | .BC => .addHLBC
  | .DE => .addHLDE
  | .HL => .addHLHL
  | .SP => .addHLSP

/-- ADD, ADC, SUB, SBC, AND, XOR, OR, CP of A with x (x a register or the byte at HL; R260 to R282). -/
def Row.alu (op : AluOp) (x : Operand) : Instr :=
  match op, x with
  | .add, .reg .B => .addAB
  | .add, .reg .C => .addAC
  | .add, .reg .D => .addAD
  | .add, .reg .E => .addAE
  | .add, .reg .H => .addAH
  | .add, .reg .L => .addAL
  | .add, .indHL => .addAIndHL
  | .add, .reg .A => .addAA
  | .adc, .reg .B => .adcAB
  | .adc, .reg .C => .adcAC
  | .adc, .reg .D => .adcAD
  | .adc, .reg .E => .adcAE
  | .adc, .reg .H => .adcAH
  | .adc, .reg .L => .adcAL
  | .adc, .indHL => .adcAIndHL
  | .adc, .reg .A => .adcAA
  | .sub, .reg .B => .subAB
  | .sub, .reg .C => .subAC
  | .sub, .reg .D => .subAD
  | .sub, .reg .E => .subAE
  | .sub, .reg .H => .subAH
  | .sub, .reg .L => .subAL
  | .sub, .indHL => .subAIndHL
  | .sub, .reg .A => .subAA
  | .sbc, .reg .B => .sbcAB
  | .sbc, .reg .C => .sbcAC
  | .sbc, .reg .D => .sbcAD
  | .sbc, .reg .E => .sbcAE
  | .sbc, .reg .H => .sbcAH
  | .sbc, .reg .L => .sbcAL
  | .sbc, .indHL => .sbcAIndHL
  | .sbc, .reg .A => .sbcAA
  | .and, .reg .B => .andAB
  | .and, .reg .C => .andAC
  | .and, .reg .D => .andAD
  | .and, .reg .E => .andAE
  | .and, .reg .H => .andAH
  | .and, .reg .L => .andAL
  | .and, .indHL => .andAIndHL
  | .and, .reg .A => .andAA
  | .xor, .reg .B => .xorAB
  | .xor, .reg .C => .xorAC
  | .xor, .reg .D => .xorAD
  | .xor, .reg .E => .xorAE
  | .xor, .reg .H => .xorAH
  | .xor, .reg .L => .xorAL
  | .xor, .indHL => .xorAIndHL
  | .xor, .reg .A => .xorAA
  | .or, .reg .B => .orAB
  | .or, .reg .C => .orAC
  | .or, .reg .D => .orAD
  | .or, .reg .E => .orAE
  | .or, .reg .H => .orAH
  | .or, .reg .L => .orAL
  | .or, .indHL => .orAIndHL
  | .or, .reg .A => .orAA
  | .cp, .reg .B => .cpAB
  | .cp, .reg .C => .cpAC
  | .cp, .reg .D => .cpAD
  | .cp, .reg .E => .cpAE
  | .cp, .reg .H => .cpAH
  | .cp, .reg .L => .cpAL
  | .cp, .indHL => .cpAIndHL
  | .cp, .reg .A => .cpAA

/-- ADD, ADC, SUB, SBC, AND, XOR, OR, CP of A with n (R262, R265, R268, R271, R274, R277, R280, R283). -/
def Row.aluImm (op : AluOp) (n : Byte) : Instr :=
  match op, n with
  | .add, n => .addAn n
  | .adc, n => .adcAn n
  | .sub, n => .subAn n
  | .sbc, n => .sbcAn n
  | .and, n => .andAn n
  | .xor, n => .xorAn n
  | .or, n => .orAn n
  | .cp, n => .cpAn n

/-- PUSH rr (R312, R314). -/
def Row.push (q : StackPair) : Instr :=
  match q with
  | .BC => .pushBC
  | .DE => .pushDE
  | .HL => .pushHL
  | .AF => .pushAF

/-- POP rr (R313, R315). -/
def Row.pop (q : StackPair) : Instr :=
  match q with
  | .BC => .popBC
  | .DE => .popDE
  | .HL => .popHL
  | .AF => .popAF

/-- JP cc,nn (R332). -/
def Row.jpCond (cc : Cond) (nn : Word) : Instr :=
  match cc, nn with
  | .NZ, nn => .jpNZnn nn
  | .Z, nn => .jpZnn nn
  | .NC, nn => .jpNCnn nn
  | .C, nn => .jpCnn nn

/-- JR cc,e (R335). -/
def Row.jrCond (cc : Cond) (e : Byte) : Instr :=
  match cc, e with
  | .NZ, e => .jrNZe e
  | .Z, e => .jrZe e
  | .NC, e => .jrNCe e
  | .C, e => .jrCe e

/-- CALL cc,nn (R337). -/
def Row.callCond (cc : Cond) (nn : Word) : Instr :=
  match cc, nn with
  | .NZ, nn => .callNZnn nn
  | .Z, nn => .callZnn nn
  | .NC, nn => .callNCnn nn
  | .C, nn => .callCnn nn

/-- RET cc (R339). -/
def Row.retCond (cc : Cond) : Instr :=
  match cc with
  | .NZ => .retNZ
  | .Z => .retZ
  | .NC => .retNC
  | .C => .retC

/-- RST t (R341). -/
def Row.rst (t : RstTarget) : Instr :=
  match t with
  | .t00 => .rst00
  | .t08 => .rst08
  | .t10 => .rst10
  | .t18 => .rst18
  | .t20 => .rst20
  | .t28 => .rst28
  | .t30 => .rst30
  | .t38 => .rst38

/-- RLCA, RRCA, RLA, RRA (R360 to R363). -/
def Row.accRot (op : RotOp) : Instr :=
  match op with
  | .rlc => .rlca
  | .rrc => .rrca
  | .rl => .rla
  | .rr => .rra

/-- RLC, RRC, RL, RR, SLA, SRA, SWAP, SRL of x (R391 to R406). -/
def Row.shift (op : ShiftOp) (x : Operand) : Instr :=
  match op, x with
  | .rot .rlc, .reg .B => .rlcB
  | .rot .rlc, .reg .C => .rlcC
  | .rot .rlc, .reg .D => .rlcD
  | .rot .rlc, .reg .E => .rlcE
  | .rot .rlc, .reg .H => .rlcH
  | .rot .rlc, .reg .L => .rlcL
  | .rot .rlc, .indHL => .rlcIndHL
  | .rot .rlc, .reg .A => .rlcA
  | .rot .rrc, .reg .B => .rrcB
  | .rot .rrc, .reg .C => .rrcC
  | .rot .rrc, .reg .D => .rrcD
  | .rot .rrc, .reg .E => .rrcE
  | .rot .rrc, .reg .H => .rrcH
  | .rot .rrc, .reg .L => .rrcL
  | .rot .rrc, .indHL => .rrcIndHL
  | .rot .rrc, .reg .A => .rrcA
  | .rot .rl, .reg .B => .rlB
  | .rot .rl, .reg .C => .rlC
  | .rot .rl, .reg .D => .rlD
  | .rot .rl, .reg .E => .rlE
  | .rot .rl, .reg .H => .rlH
  | .rot .rl, .reg .L => .rlL
  | .rot .rl, .indHL => .rlIndHL
  | .rot .rl, .reg .A => .rlA
  | .rot .rr, .reg .B => .rrB
  | .rot .rr, .reg .C => .rrC
  | .rot .rr, .reg .D => .rrD
  | .rot .rr, .reg .E => .rrE
  | .rot .rr, .reg .H => .rrH
  | .rot .rr, .reg .L => .rrL
  | .rot .rr, .indHL => .rrIndHL
  | .rot .rr, .reg .A => .rrA
  | .sla, .reg .B => .slaB
  | .sla, .reg .C => .slaC
  | .sla, .reg .D => .slaD
  | .sla, .reg .E => .slaE
  | .sla, .reg .H => .slaH
  | .sla, .reg .L => .slaL
  | .sla, .indHL => .slaIndHL
  | .sla, .reg .A => .slaA
  | .sra, .reg .B => .sraB
  | .sra, .reg .C => .sraC
  | .sra, .reg .D => .sraD
  | .sra, .reg .E => .sraE
  | .sra, .reg .H => .sraH
  | .sra, .reg .L => .sraL
  | .sra, .indHL => .sraIndHL
  | .sra, .reg .A => .sraA
  | .swap, .reg .B => .swapB
  | .swap, .reg .C => .swapC
  | .swap, .reg .D => .swapD
  | .swap, .reg .E => .swapE
  | .swap, .reg .H => .swapH
  | .swap, .reg .L => .swapL
  | .swap, .indHL => .swapIndHL
  | .swap, .reg .A => .swapA
  | .srl, .reg .B => .srlB
  | .srl, .reg .C => .srlC
  | .srl, .reg .D => .srlD
  | .srl, .reg .E => .srlE
  | .srl, .reg .H => .srlH
  | .srl, .reg .L => .srlL
  | .srl, .indHL => .srlIndHL
  | .srl, .reg .A => .srlA

/-- BIT b,x (R407, R408). -/
def Row.bit (b : BitNo) (x : Operand) : Instr :=
  match b, x with
  | .b0, .reg .B => .bit0B
  | .b0, .reg .C => .bit0C
  | .b0, .reg .D => .bit0D
  | .b0, .reg .E => .bit0E
  | .b0, .reg .H => .bit0H
  | .b0, .reg .L => .bit0L
  | .b0, .indHL => .bit0IndHL
  | .b0, .reg .A => .bit0A
  | .b1, .reg .B => .bit1B
  | .b1, .reg .C => .bit1C
  | .b1, .reg .D => .bit1D
  | .b1, .reg .E => .bit1E
  | .b1, .reg .H => .bit1H
  | .b1, .reg .L => .bit1L
  | .b1, .indHL => .bit1IndHL
  | .b1, .reg .A => .bit1A
  | .b2, .reg .B => .bit2B
  | .b2, .reg .C => .bit2C
  | .b2, .reg .D => .bit2D
  | .b2, .reg .E => .bit2E
  | .b2, .reg .H => .bit2H
  | .b2, .reg .L => .bit2L
  | .b2, .indHL => .bit2IndHL
  | .b2, .reg .A => .bit2A
  | .b3, .reg .B => .bit3B
  | .b3, .reg .C => .bit3C
  | .b3, .reg .D => .bit3D
  | .b3, .reg .E => .bit3E
  | .b3, .reg .H => .bit3H
  | .b3, .reg .L => .bit3L
  | .b3, .indHL => .bit3IndHL
  | .b3, .reg .A => .bit3A
  | .b4, .reg .B => .bit4B
  | .b4, .reg .C => .bit4C
  | .b4, .reg .D => .bit4D
  | .b4, .reg .E => .bit4E
  | .b4, .reg .H => .bit4H
  | .b4, .reg .L => .bit4L
  | .b4, .indHL => .bit4IndHL
  | .b4, .reg .A => .bit4A
  | .b5, .reg .B => .bit5B
  | .b5, .reg .C => .bit5C
  | .b5, .reg .D => .bit5D
  | .b5, .reg .E => .bit5E
  | .b5, .reg .H => .bit5H
  | .b5, .reg .L => .bit5L
  | .b5, .indHL => .bit5IndHL
  | .b5, .reg .A => .bit5A
  | .b6, .reg .B => .bit6B
  | .b6, .reg .C => .bit6C
  | .b6, .reg .D => .bit6D
  | .b6, .reg .E => .bit6E
  | .b6, .reg .H => .bit6H
  | .b6, .reg .L => .bit6L
  | .b6, .indHL => .bit6IndHL
  | .b6, .reg .A => .bit6A
  | .b7, .reg .B => .bit7B
  | .b7, .reg .C => .bit7C
  | .b7, .reg .D => .bit7D
  | .b7, .reg .E => .bit7E
  | .b7, .reg .H => .bit7H
  | .b7, .reg .L => .bit7L
  | .b7, .indHL => .bit7IndHL
  | .b7, .reg .A => .bit7A

/-- RES b,x (R409, R410). -/
def Row.res (b : BitNo) (x : Operand) : Instr :=
  match b, x with
  | .b0, .reg .B => .res0B
  | .b0, .reg .C => .res0C
  | .b0, .reg .D => .res0D
  | .b0, .reg .E => .res0E
  | .b0, .reg .H => .res0H
  | .b0, .reg .L => .res0L
  | .b0, .indHL => .res0IndHL
  | .b0, .reg .A => .res0A
  | .b1, .reg .B => .res1B
  | .b1, .reg .C => .res1C
  | .b1, .reg .D => .res1D
  | .b1, .reg .E => .res1E
  | .b1, .reg .H => .res1H
  | .b1, .reg .L => .res1L
  | .b1, .indHL => .res1IndHL
  | .b1, .reg .A => .res1A
  | .b2, .reg .B => .res2B
  | .b2, .reg .C => .res2C
  | .b2, .reg .D => .res2D
  | .b2, .reg .E => .res2E
  | .b2, .reg .H => .res2H
  | .b2, .reg .L => .res2L
  | .b2, .indHL => .res2IndHL
  | .b2, .reg .A => .res2A
  | .b3, .reg .B => .res3B
  | .b3, .reg .C => .res3C
  | .b3, .reg .D => .res3D
  | .b3, .reg .E => .res3E
  | .b3, .reg .H => .res3H
  | .b3, .reg .L => .res3L
  | .b3, .indHL => .res3IndHL
  | .b3, .reg .A => .res3A
  | .b4, .reg .B => .res4B
  | .b4, .reg .C => .res4C
  | .b4, .reg .D => .res4D
  | .b4, .reg .E => .res4E
  | .b4, .reg .H => .res4H
  | .b4, .reg .L => .res4L
  | .b4, .indHL => .res4IndHL
  | .b4, .reg .A => .res4A
  | .b5, .reg .B => .res5B
  | .b5, .reg .C => .res5C
  | .b5, .reg .D => .res5D
  | .b5, .reg .E => .res5E
  | .b5, .reg .H => .res5H
  | .b5, .reg .L => .res5L
  | .b5, .indHL => .res5IndHL
  | .b5, .reg .A => .res5A
  | .b6, .reg .B => .res6B
  | .b6, .reg .C => .res6C
  | .b6, .reg .D => .res6D
  | .b6, .reg .E => .res6E
  | .b6, .reg .H => .res6H
  | .b6, .reg .L => .res6L
  | .b6, .indHL => .res6IndHL
  | .b6, .reg .A => .res6A
  | .b7, .reg .B => .res7B
  | .b7, .reg .C => .res7C
  | .b7, .reg .D => .res7D
  | .b7, .reg .E => .res7E
  | .b7, .reg .H => .res7H
  | .b7, .reg .L => .res7L
  | .b7, .indHL => .res7IndHL
  | .b7, .reg .A => .res7A

/-- SET b,x (R411, R412). -/
def Row.set (b : BitNo) (x : Operand) : Instr :=
  match b, x with
  | .b0, .reg .B => .set0B
  | .b0, .reg .C => .set0C
  | .b0, .reg .D => .set0D
  | .b0, .reg .E => .set0E
  | .b0, .reg .H => .set0H
  | .b0, .reg .L => .set0L
  | .b0, .indHL => .set0IndHL
  | .b0, .reg .A => .set0A
  | .b1, .reg .B => .set1B
  | .b1, .reg .C => .set1C
  | .b1, .reg .D => .set1D
  | .b1, .reg .E => .set1E
  | .b1, .reg .H => .set1H
  | .b1, .reg .L => .set1L
  | .b1, .indHL => .set1IndHL
  | .b1, .reg .A => .set1A
  | .b2, .reg .B => .set2B
  | .b2, .reg .C => .set2C
  | .b2, .reg .D => .set2D
  | .b2, .reg .E => .set2E
  | .b2, .reg .H => .set2H
  | .b2, .reg .L => .set2L
  | .b2, .indHL => .set2IndHL
  | .b2, .reg .A => .set2A
  | .b3, .reg .B => .set3B
  | .b3, .reg .C => .set3C
  | .b3, .reg .D => .set3D
  | .b3, .reg .E => .set3E
  | .b3, .reg .H => .set3H
  | .b3, .reg .L => .set3L
  | .b3, .indHL => .set3IndHL
  | .b3, .reg .A => .set3A
  | .b4, .reg .B => .set4B
  | .b4, .reg .C => .set4C
  | .b4, .reg .D => .set4D
  | .b4, .reg .E => .set4E
  | .b4, .reg .H => .set4H
  | .b4, .reg .L => .set4L
  | .b4, .indHL => .set4IndHL
  | .b4, .reg .A => .set4A
  | .b5, .reg .B => .set5B
  | .b5, .reg .C => .set5C
  | .b5, .reg .D => .set5D
  | .b5, .reg .E => .set5E
  | .b5, .reg .H => .set5H
  | .b5, .reg .L => .set5L
  | .b5, .indHL => .set5IndHL
  | .b5, .reg .A => .set5A
  | .b6, .reg .B => .set6B
  | .b6, .reg .C => .set6C
  | .b6, .reg .D => .set6D
  | .b6, .reg .E => .set6E
  | .b6, .reg .H => .set6H
  | .b6, .reg .L => .set6L
  | .b6, .indHL => .set6IndHL
  | .b6, .reg .A => .set6A
  | .b7, .reg .B => .set7B
  | .b7, .reg .C => .set7C
  | .b7, .reg .D => .set7D
  | .b7, .reg .E => .set7E
  | .b7, .reg .H => .set7H
  | .b7, .reg .L => .set7L
  | .b7, .indHL => .set7IndHL
  | .b7, .reg .A => .set7A

/-! ## The field value tables of R106 -/

/-- The register table `r`. -/
def operandOf : Nat → Operand
  | 0 => .reg .B
  | 1 => .reg .C
  | 2 => .reg .D
  | 3 => .reg .E
  | 4 => .reg .H
  | 5 => .reg .L
  | 6 => .indHL
  | _ => .reg .A

/-- The pair table `rp`. -/
def pairOf : Nat → Pair
  | 0 => .BC
  | 1 => .DE
  | 2 => .HL
  | _ => .SP

/-- The pair table `rp2`. -/
def stackPairOf : Nat → StackPair
  | 0 => .BC
  | 1 => .DE
  | 2 => .HL
  | _ => .AF

/-- The condition table `cc`. -/
def condOf : Nat → Cond
  | 0 => .NZ
  | 1 => .Z
  | 2 => .NC
  | _ => .C

/-- The operation table `alu`. -/
def aluOf : Nat → AluOp
  | 0 => .add
  | 1 => .adc
  | 2 => .sub
  | 3 => .sbc
  | 4 => .and
  | 5 => .xor
  | 6 => .or
  | _ => .cp

/-- The rotate or shift number of R390. -/
def shiftOf : Nat → ShiftOp
  | 0 => .rot .rlc
  | 1 => .rot .rrc
  | 2 => .rot .rl
  | 3 => .rot .rr
  | 4 => .sla
  | 5 => .sra
  | 6 => .swap
  | _ => .srl

/-- The bit number of R390. -/
def bitNoOf : Nat → BitNo
  | 0 => .b0
  | 1 => .b1
  | 2 => .b2
  | 3 => .b3
  | 4 => .b4
  | 5 => .b5
  | 6 => .b6
  | _ => .b7

/-- The restart number of R341. -/
def rstOf : Nat → RstTarget
  | 0 => .t00
  | 1 => .t08
  | 2 => .t10
  | 3 => .t18
  | 4 => .t20
  | 5 => .t28
  | 6 => .t30
  | _ => .t38

/-! ## Length, tier, decoding -/

/-- How many operand bytes follow the opcode byte (the formats of R105: OP 0; OP_N, OP_E, CB 1; OP_NN 2). -/
def operandCount (op : Byte) : Nat :=
  let y := fieldY op
  match fieldX op, fieldZ op with
  | 0, 0 => if y = 0 then 0 else if y = 1 then 2 else 1
  | 0, 1 => if y % 2 = 0 then 2 else 0
  | 0, 6 => 1
  | 3, 0 => if y < 4 then 0 else 1
  | 3, 2 => if y = 4 ∨ y = 6 then 0 else 2
  | 3, 3 => if y = 0 then 2 else if y = 1 then 1 else 0
  | 3, 4 => if y < 4 then 2 else 0
  | 3, 5 => if y = 1 then 2 else 0
  | 3, 6 => 1
  | _, _ => 0

/-- The opcode byte selects a rule of tier T2: the entries marked `*` in the grid of R111 (R5). -/
def isTierT2 (op : Byte) : Bool :=
  let y := fieldY op
  match fieldX op, fieldZ op with
  | 0, 0 => 2 ≤ y
  | 0, 2 => 4 ≤ y
  | 0, 4 => y == 6
  | 0, 5 => y == 6
  | 0, 7 => true
  | 1, 6 => y == 6
  | 2, _ => 4 ≤ y
  | 3, 0 => true
  | 3, 1 => y % 2 == 1
  | 3, 2 => !(y == 5 || y == 7)
  | 3, 3 => y ≤ 1 || 6 ≤ y
  | 3, 4 => y < 4
  | 3, 5 => y == 1
  | 3, 6 => true
  | 3, 7 => true
  | _, _ => false

/-- The CB sub-table: the operation a sub-opcode selects (R390). -/
def decodeCb (sub : Byte) : Instr :=
  let y := fieldY sub
  let x := operandOf (fieldZ sub)
  match fieldX sub with
  | 0 => Row.shift (shiftOf y) x
  | 1 => Row.bit (bitNoOf y) x
  | 2 => Row.res (bitNoOf y) x
  | _ => Row.set (bitNoOf y) x

/-- The main table: the instruction an opcode byte and its operand bytes `b1`, `b2` are (R112, R115). The
operand bytes an instruction does not have are not looked at. -/
def decodeMain (op b1 b2 : Byte) : Instr :=
  let y := fieldY op
  let z := fieldZ op
  let p := y / 2
  let nn := word b2 b1
  match fieldX op with
  | 0 =>
    match z with
    | 0 =>
      match y with
      | 0 => .nop
      | 1 => .ldIndNNSP nn
      | 2 => .stop b1
      | 3 => .jrE b1
      | _ => Row.jrCond (condOf (y - 4)) b1
    | 1 => if y % 2 = 0 then Row.ldPairImm (pairOf p) nn else Row.addHL (pairOf p)
    | 2 =>
      match y with
      | 0 => Row.storeA .indBC
      | 1 => Row.loadA .indBC
      | 2 => Row.storeA .indDE
      | 3 => Row.loadA .indDE
      | 4 => Row.storeA .indHLI
      | 5 => Row.loadA .indHLI
      | 6 => Row.storeA .indHLD
      | _ => Row.loadA .indHLD
    | 3 => if y % 2 = 0 then Row.incPair (pairOf p) else Row.decPair (pairOf p)
    | 4 => Row.inc (operandOf y)
    | 5 => Row.dec (operandOf y)
    | 6 =>
      match operandOf y with
      | .reg d => Row.ldRegImm d b1
      | .indHL => .ldIndHLn b1
    | _ =>
      match y with
      | 0 => Row.accRot .rlc
      | 1 => Row.accRot .rrc
      | 2 => Row.accRot .rl
      | 3 => Row.accRot .rr
      | 4 => .daa
      | 5 => .cpl
      | 6 => .scf
      | _ => .ccf
  | 1 =>
    match operandOf y, operandOf z with
    | .reg d, .reg r => Row.ldRegReg d r
    | .reg d, .indHL => Row.ldRegIndHL d
    | .indHL, .reg r => Row.ldIndHLReg r
    | .indHL, .indHL => .halt
  | 2 => Row.alu (aluOf y) (operandOf z)
  | _ =>
    match z with
    | 0 =>
      match y with
      | 4 => Row.storeA (.highN b1)
      | 5 => .addSPe b1
      | 6 => Row.loadA (.highN b1)
      | 7 => .ldHLSPe b1
      | _ => Row.retCond (condOf y)
    | 1 =>
      match y with
      | 1 => .ret
      | 3 => .reti
      | 5 => .jpHL
      | 7 => .ldSPHL
      | _ => Row.pop (stackPairOf p)
    | 2 =>
      match y with
      | 4 => Row.storeA .highC
      | 5 => Row.storeA (.indNN nn)
      | 6 => Row.loadA .highC
      | 7 => Row.loadA (.indNN nn)
      | _ => Row.jpCond (condOf y) nn
    | 3 =>
      match y with
      | 0 => .jpNn nn
      | 1 => decodeCb b1
      | 6 => .di
      | 7 => .ei
      | _ => .undefined op
    | 4 => if y < 4 then Row.callCond (condOf y) nn else .undefined op
    | 5 =>
      if y % 2 = 0 then Row.push (stackPairOf p) else if y = 1 then .callNn nn else .undefined op
    | 6 => Row.aluImm (aluOf y) b1
    | _ => Row.rst (rstOf y)

/-- Why a list of bytes holds no whole instruction. Every opcode byte decodes (R102), so nothing else is
rejected here; an opcode byte that has no instruction decodes to `undefined`. -/
inductive DecodeError where
  /-- there is no opcode byte -/
  | noOpcode
  /-- the operand bytes the opcode `op` needs are missing -/
  | truncated (op : Byte)
  deriving DecidableEq, Repr

/-- The instruction at the head of a list of bytes, and the bytes after it (R105, R115). The prefix byte alone,
with no sub-opcode after it, is the row PREFIX CB (assumption 14). -/
def decode : List Byte → Except DecodeError (Instr × List Byte)
  | [] => .error .noOpcode
  | op :: rest =>
    match operandCount op, rest with
    | 0, _ => .ok (decodeMain op 0 0, rest)
    | 1, b1 :: rest => .ok (decodeMain op b1 0, rest)
    | 1, [] => if op = 0xCB then .ok (.prefixCb, []) else .error (.truncated op)
    | _, b1 :: b2 :: rest => .ok (decodeMain op b1 b2, rest)
    | _, _ => .error (.truncated op)

/-- The instruction the decoder reads from the bytes of `w` (bit 0 of `w` the least significant bit of the first
byte), the bits above `nbits` zero. -/
def decodeTableWord (nbits w : Nat) : Option Instr :=
  let v := w % 2 ^ nbits
  match decode [BitVec.ofNat 8 v, BitVec.ofNat 8 (v / 256), BitVec.ofNat 8 (v / 65536)] with
  | .ok (i, _) => some i
  | .error _ => none

/-! ## The encoder: the grid of R111 -/

/-- The bytes of an instruction, at increasing addresses (R105, R111; the CB sub-table R391 to R412). -/
def encode (i : Instr) : List Byte :=
  match i with
  | .ldBCnn nn => [0x01, loByte nn, hiByte nn]
  | .ldBn n => [0x06, n]
  | .ldIndNNSP nn => [0x08, loByte nn, hiByte nn]
  | .ldCn n => [0x0E, n]
  | .stop pad => [0x10, pad]
  | .ldDEnn nn => [0x11, loByte nn, hiByte nn]
  | .ldDn n => [0x16, n]
  | .jrE e => [0x18, e]
  | .ldEn n => [0x1E, n]
  | .jrNZe e => [0x20, e]
  | .ldHLnn nn => [0x21, loByte nn, hiByte nn]
  | .ldHn n => [0x26, n]
  | .jrZe e => [0x28, e]
  | .ldLn n => [0x2E, n]
  | .jrNCe e => [0x30, e]
  | .ldSPnn nn => [0x31, loByte nn, hiByte nn]
  | .ldIndHLn n => [0x36, n]
  | .jrCe e => [0x38, e]
  | .ldAn n => [0x3E, n]
  | .jpNZnn nn => [0xC2, loByte nn, hiByte nn]
  | .jpNn nn => [0xC3, loByte nn, hiByte nn]
  | .callNZnn nn => [0xC4, loByte nn, hiByte nn]
  | .addAn n => [0xC6, n]
  | .jpZnn nn => [0xCA, loByte nn, hiByte nn]
  | .callZnn nn => [0xCC, loByte nn, hiByte nn]
  | .callNn nn => [0xCD, loByte nn, hiByte nn]
  | .adcAn n => [0xCE, n]
  | .jpNCnn nn => [0xD2, loByte nn, hiByte nn]
  | .undefined op => [op]
  | .callNCnn nn => [0xD4, loByte nn, hiByte nn]
  | .subAn n => [0xD6, n]
  | .jpCnn nn => [0xDA, loByte nn, hiByte nn]
  | .callCnn nn => [0xDC, loByte nn, hiByte nn]
  | .sbcAn n => [0xDE, n]
  | .ldhIndNA n => [0xE0, n]
  | .andAn n => [0xE6, n]
  | .addSPe e => [0xE8, e]
  | .ldIndNNA nn => [0xEA, loByte nn, hiByte nn]
  | .xorAn n => [0xEE, n]
  | .ldhAIndN n => [0xF0, n]
  | .orAn n => [0xF6, n]
  | .ldHLSPe e => [0xF8, e]
  | .ldAIndNN nn => [0xFA, loByte nn, hiByte nn]
  | .cpAn n => [0xFE, n]
  | .nop => [0x00]
  | .ldIndBCA => [0x02]
  | .incBC => [0x03]
  | .incB => [0x04]
  | .decB => [0x05]
  | .rlca => [0x07]
  | .addHLBC => [0x09]
  | .ldAIndBC => [0x0A]
  | .decBC => [0x0B]
  | .incC => [0x0C]
  | .decC => [0x0D]
  | .rrca => [0x0F]
  | .ldIndDEA => [0x12]
  | .incDE => [0x13]
  | .incD => [0x14]
  | .decD => [0x15]
  | .rla => [0x17]
  | .addHLDE => [0x19]
  | .ldAIndDE => [0x1A]
  | .decDE => [0x1B]
  | .incE => [0x1C]
  | .decE => [0x1D]
  | .rra => [0x1F]
  | .ldIndHLIA => [0x22]
  | .incHL => [0x23]
  | .incH => [0x24]
  | .decH => [0x25]
  | .daa => [0x27]
  | .addHLHL => [0x29]
  | .ldAIndHLI => [0x2A]
  | .decHL => [0x2B]
  | .incL => [0x2C]
  | .decL => [0x2D]
  | .cpl => [0x2F]
  | .ldIndHLDA => [0x32]
  | .incSP => [0x33]
  | .incIndHL => [0x34]
  | .decIndHL => [0x35]
  | .scf => [0x37]
  | .addHLSP => [0x39]
  | .ldAIndHLD => [0x3A]
  | .decSP => [0x3B]
  | .incA => [0x3C]
  | .decA => [0x3D]
  | .ccf => [0x3F]
  | .ldBB => [0x40]
  | .ldBC => [0x41]
  | .ldBD => [0x42]
  | .ldBE => [0x43]
  | .ldBH => [0x44]
  | .ldBL => [0x45]
  | .ldBIndHL => [0x46]
  | .ldBA => [0x47]
  | .ldCB => [0x48]
  | .ldCC => [0x49]
  | .ldCD => [0x4A]
  | .ldCE => [0x4B]
  | .ldCH => [0x4C]
  | .ldCL => [0x4D]
  | .ldCIndHL => [0x4E]
  | .ldCA => [0x4F]
  | .ldDB => [0x50]
  | .ldDC => [0x51]
  | .ldDD => [0x52]
  | .ldDE => [0x53]
  | .ldDH => [0x54]
  | .ldDL => [0x55]
  | .ldDIndHL => [0x56]
  | .ldDA => [0x57]
  | .ldEB => [0x58]
  | .ldEC => [0x59]
  | .ldED => [0x5A]
  | .ldEE => [0x5B]
  | .ldEH => [0x5C]
  | .ldEL => [0x5D]
  | .ldEIndHL => [0x5E]
  | .ldEA => [0x5F]
  | .ldHB => [0x60]
  | .ldHC => [0x61]
  | .ldHD => [0x62]
  | .ldHE => [0x63]
  | .ldHH => [0x64]
  | .ldHL => [0x65]
  | .ldHIndHL => [0x66]
  | .ldHA => [0x67]
  | .ldLB => [0x68]
  | .ldLC => [0x69]
  | .ldLD => [0x6A]
  | .ldLE => [0x6B]
  | .ldLH => [0x6C]
  | .ldLL => [0x6D]
  | .ldLIndHL => [0x6E]
  | .ldLA => [0x6F]
  | .ldIndHLB => [0x70]
  | .ldIndHLC => [0x71]
  | .ldIndHLD => [0x72]
  | .ldIndHLE => [0x73]
  | .ldIndHLH => [0x74]
  | .ldIndHLL => [0x75]
  | .halt => [0x76]
  | .ldIndHLA => [0x77]
  | .ldAB => [0x78]
  | .ldAC => [0x79]
  | .ldAD => [0x7A]
  | .ldAE => [0x7B]
  | .ldAH => [0x7C]
  | .ldAL => [0x7D]
  | .ldAIndHL => [0x7E]
  | .ldAA => [0x7F]
  | .addAB => [0x80]
  | .addAC => [0x81]
  | .addAD => [0x82]
  | .addAE => [0x83]
  | .addAH => [0x84]
  | .addAL => [0x85]
  | .addAIndHL => [0x86]
  | .addAA => [0x87]
  | .adcAB => [0x88]
  | .adcAC => [0x89]
  | .adcAD => [0x8A]
  | .adcAE => [0x8B]
  | .adcAH => [0x8C]
  | .adcAL => [0x8D]
  | .adcAIndHL => [0x8E]
  | .adcAA => [0x8F]
  | .subAB => [0x90]
  | .subAC => [0x91]
  | .subAD => [0x92]
  | .subAE => [0x93]
  | .subAH => [0x94]
  | .subAL => [0x95]
  | .subAIndHL => [0x96]
  | .subAA => [0x97]
  | .sbcAB => [0x98]
  | .sbcAC => [0x99]
  | .sbcAD => [0x9A]
  | .sbcAE => [0x9B]
  | .sbcAH => [0x9C]
  | .sbcAL => [0x9D]
  | .sbcAIndHL => [0x9E]
  | .sbcAA => [0x9F]
  | .andAB => [0xA0]
  | .andAC => [0xA1]
  | .andAD => [0xA2]
  | .andAE => [0xA3]
  | .andAH => [0xA4]
  | .andAL => [0xA5]
  | .andAIndHL => [0xA6]
  | .andAA => [0xA7]
  | .xorAB => [0xA8]
  | .xorAC => [0xA9]
  | .xorAD => [0xAA]
  | .xorAE => [0xAB]
  | .xorAH => [0xAC]
  | .xorAL => [0xAD]
  | .xorAIndHL => [0xAE]
  | .xorAA => [0xAF]
  | .orAB => [0xB0]
  | .orAC => [0xB1]
  | .orAD => [0xB2]
  | .orAE => [0xB3]
  | .orAH => [0xB4]
  | .orAL => [0xB5]
  | .orAIndHL => [0xB6]
  | .orAA => [0xB7]
  | .cpAB => [0xB8]
  | .cpAC => [0xB9]
  | .cpAD => [0xBA]
  | .cpAE => [0xBB]
  | .cpAH => [0xBC]
  | .cpAL => [0xBD]
  | .cpAIndHL => [0xBE]
  | .cpAA => [0xBF]
  | .retNZ => [0xC0]
  | .popBC => [0xC1]
  | .pushBC => [0xC5]
  | .rst00 => [0xC7]
  | .retZ => [0xC8]
  | .ret => [0xC9]
  | .prefixCb => [0xCB]
  | .rst08 => [0xCF]
  | .retNC => [0xD0]
  | .popDE => [0xD1]
  | .pushDE => [0xD5]
  | .rst10 => [0xD7]
  | .retC => [0xD8]
  | .reti => [0xD9]
  | .rst18 => [0xDF]
  | .popHL => [0xE1]
  | .ldIndCA => [0xE2]
  | .pushHL => [0xE5]
  | .rst20 => [0xE7]
  | .jpHL => [0xE9]
  | .rst28 => [0xEF]
  | .popAF => [0xF1]
  | .ldAIndC => [0xF2]
  | .di => [0xF3]
  | .pushAF => [0xF5]
  | .rst30 => [0xF7]
  | .ldSPHL => [0xF9]
  | .ei => [0xFB]
  | .rst38 => [0xFF]
  | .rlcB => [0xCB, 0x00]
  | .rlcC => [0xCB, 0x01]
  | .rlcD => [0xCB, 0x02]
  | .rlcE => [0xCB, 0x03]
  | .rlcH => [0xCB, 0x04]
  | .rlcL => [0xCB, 0x05]
  | .rlcIndHL => [0xCB, 0x06]
  | .rlcA => [0xCB, 0x07]
  | .rrcB => [0xCB, 0x08]
  | .rrcC => [0xCB, 0x09]
  | .rrcD => [0xCB, 0x0A]
  | .rrcE => [0xCB, 0x0B]
  | .rrcH => [0xCB, 0x0C]
  | .rrcL => [0xCB, 0x0D]
  | .rrcIndHL => [0xCB, 0x0E]
  | .rrcA => [0xCB, 0x0F]
  | .rlB => [0xCB, 0x10]
  | .rlC => [0xCB, 0x11]
  | .rlD => [0xCB, 0x12]
  | .rlE => [0xCB, 0x13]
  | .rlH => [0xCB, 0x14]
  | .rlL => [0xCB, 0x15]
  | .rlIndHL => [0xCB, 0x16]
  | .rlA => [0xCB, 0x17]
  | .rrB => [0xCB, 0x18]
  | .rrC => [0xCB, 0x19]
  | .rrD => [0xCB, 0x1A]
  | .rrE => [0xCB, 0x1B]
  | .rrH => [0xCB, 0x1C]
  | .rrL => [0xCB, 0x1D]
  | .rrIndHL => [0xCB, 0x1E]
  | .rrA => [0xCB, 0x1F]
  | .slaB => [0xCB, 0x20]
  | .slaC => [0xCB, 0x21]
  | .slaD => [0xCB, 0x22]
  | .slaE => [0xCB, 0x23]
  | .slaH => [0xCB, 0x24]
  | .slaL => [0xCB, 0x25]
  | .slaIndHL => [0xCB, 0x26]
  | .slaA => [0xCB, 0x27]
  | .sraB => [0xCB, 0x28]
  | .sraC => [0xCB, 0x29]
  | .sraD => [0xCB, 0x2A]
  | .sraE => [0xCB, 0x2B]
  | .sraH => [0xCB, 0x2C]
  | .sraL => [0xCB, 0x2D]
  | .sraIndHL => [0xCB, 0x2E]
  | .sraA => [0xCB, 0x2F]
  | .swapB => [0xCB, 0x30]
  | .swapC => [0xCB, 0x31]
  | .swapD => [0xCB, 0x32]
  | .swapE => [0xCB, 0x33]
  | .swapH => [0xCB, 0x34]
  | .swapL => [0xCB, 0x35]
  | .swapIndHL => [0xCB, 0x36]
  | .swapA => [0xCB, 0x37]
  | .srlB => [0xCB, 0x38]
  | .srlC => [0xCB, 0x39]
  | .srlD => [0xCB, 0x3A]
  | .srlE => [0xCB, 0x3B]
  | .srlH => [0xCB, 0x3C]
  | .srlL => [0xCB, 0x3D]
  | .srlIndHL => [0xCB, 0x3E]
  | .srlA => [0xCB, 0x3F]
  | .bit0B => [0xCB, 0x40]
  | .bit0C => [0xCB, 0x41]
  | .bit0D => [0xCB, 0x42]
  | .bit0E => [0xCB, 0x43]
  | .bit0H => [0xCB, 0x44]
  | .bit0L => [0xCB, 0x45]
  | .bit0IndHL => [0xCB, 0x46]
  | .bit0A => [0xCB, 0x47]
  | .bit1B => [0xCB, 0x48]
  | .bit1C => [0xCB, 0x49]
  | .bit1D => [0xCB, 0x4A]
  | .bit1E => [0xCB, 0x4B]
  | .bit1H => [0xCB, 0x4C]
  | .bit1L => [0xCB, 0x4D]
  | .bit1IndHL => [0xCB, 0x4E]
  | .bit1A => [0xCB, 0x4F]
  | .bit2B => [0xCB, 0x50]
  | .bit2C => [0xCB, 0x51]
  | .bit2D => [0xCB, 0x52]
  | .bit2E => [0xCB, 0x53]
  | .bit2H => [0xCB, 0x54]
  | .bit2L => [0xCB, 0x55]
  | .bit2IndHL => [0xCB, 0x56]
  | .bit2A => [0xCB, 0x57]
  | .bit3B => [0xCB, 0x58]
  | .bit3C => [0xCB, 0x59]
  | .bit3D => [0xCB, 0x5A]
  | .bit3E => [0xCB, 0x5B]
  | .bit3H => [0xCB, 0x5C]
  | .bit3L => [0xCB, 0x5D]
  | .bit3IndHL => [0xCB, 0x5E]
  | .bit3A => [0xCB, 0x5F]
  | .bit4B => [0xCB, 0x60]
  | .bit4C => [0xCB, 0x61]
  | .bit4D => [0xCB, 0x62]
  | .bit4E => [0xCB, 0x63]
  | .bit4H => [0xCB, 0x64]
  | .bit4L => [0xCB, 0x65]
  | .bit4IndHL => [0xCB, 0x66]
  | .bit4A => [0xCB, 0x67]
  | .bit5B => [0xCB, 0x68]
  | .bit5C => [0xCB, 0x69]
  | .bit5D => [0xCB, 0x6A]
  | .bit5E => [0xCB, 0x6B]
  | .bit5H => [0xCB, 0x6C]
  | .bit5L => [0xCB, 0x6D]
  | .bit5IndHL => [0xCB, 0x6E]
  | .bit5A => [0xCB, 0x6F]
  | .bit6B => [0xCB, 0x70]
  | .bit6C => [0xCB, 0x71]
  | .bit6D => [0xCB, 0x72]
  | .bit6E => [0xCB, 0x73]
  | .bit6H => [0xCB, 0x74]
  | .bit6L => [0xCB, 0x75]
  | .bit6IndHL => [0xCB, 0x76]
  | .bit6A => [0xCB, 0x77]
  | .bit7B => [0xCB, 0x78]
  | .bit7C => [0xCB, 0x79]
  | .bit7D => [0xCB, 0x7A]
  | .bit7E => [0xCB, 0x7B]
  | .bit7H => [0xCB, 0x7C]
  | .bit7L => [0xCB, 0x7D]
  | .bit7IndHL => [0xCB, 0x7E]
  | .bit7A => [0xCB, 0x7F]
  | .res0B => [0xCB, 0x80]
  | .res0C => [0xCB, 0x81]
  | .res0D => [0xCB, 0x82]
  | .res0E => [0xCB, 0x83]
  | .res0H => [0xCB, 0x84]
  | .res0L => [0xCB, 0x85]
  | .res0IndHL => [0xCB, 0x86]
  | .res0A => [0xCB, 0x87]
  | .res1B => [0xCB, 0x88]
  | .res1C => [0xCB, 0x89]
  | .res1D => [0xCB, 0x8A]
  | .res1E => [0xCB, 0x8B]
  | .res1H => [0xCB, 0x8C]
  | .res1L => [0xCB, 0x8D]
  | .res1IndHL => [0xCB, 0x8E]
  | .res1A => [0xCB, 0x8F]
  | .res2B => [0xCB, 0x90]
  | .res2C => [0xCB, 0x91]
  | .res2D => [0xCB, 0x92]
  | .res2E => [0xCB, 0x93]
  | .res2H => [0xCB, 0x94]
  | .res2L => [0xCB, 0x95]
  | .res2IndHL => [0xCB, 0x96]
  | .res2A => [0xCB, 0x97]
  | .res3B => [0xCB, 0x98]
  | .res3C => [0xCB, 0x99]
  | .res3D => [0xCB, 0x9A]
  | .res3E => [0xCB, 0x9B]
  | .res3H => [0xCB, 0x9C]
  | .res3L => [0xCB, 0x9D]
  | .res3IndHL => [0xCB, 0x9E]
  | .res3A => [0xCB, 0x9F]
  | .res4B => [0xCB, 0xA0]
  | .res4C => [0xCB, 0xA1]
  | .res4D => [0xCB, 0xA2]
  | .res4E => [0xCB, 0xA3]
  | .res4H => [0xCB, 0xA4]
  | .res4L => [0xCB, 0xA5]
  | .res4IndHL => [0xCB, 0xA6]
  | .res4A => [0xCB, 0xA7]
  | .res5B => [0xCB, 0xA8]
  | .res5C => [0xCB, 0xA9]
  | .res5D => [0xCB, 0xAA]
  | .res5E => [0xCB, 0xAB]
  | .res5H => [0xCB, 0xAC]
  | .res5L => [0xCB, 0xAD]
  | .res5IndHL => [0xCB, 0xAE]
  | .res5A => [0xCB, 0xAF]
  | .res6B => [0xCB, 0xB0]
  | .res6C => [0xCB, 0xB1]
  | .res6D => [0xCB, 0xB2]
  | .res6E => [0xCB, 0xB3]
  | .res6H => [0xCB, 0xB4]
  | .res6L => [0xCB, 0xB5]
  | .res6IndHL => [0xCB, 0xB6]
  | .res6A => [0xCB, 0xB7]
  | .res7B => [0xCB, 0xB8]
  | .res7C => [0xCB, 0xB9]
  | .res7D => [0xCB, 0xBA]
  | .res7E => [0xCB, 0xBB]
  | .res7H => [0xCB, 0xBC]
  | .res7L => [0xCB, 0xBD]
  | .res7IndHL => [0xCB, 0xBE]
  | .res7A => [0xCB, 0xBF]
  | .set0B => [0xCB, 0xC0]
  | .set0C => [0xCB, 0xC1]
  | .set0D => [0xCB, 0xC2]
  | .set0E => [0xCB, 0xC3]
  | .set0H => [0xCB, 0xC4]
  | .set0L => [0xCB, 0xC5]
  | .set0IndHL => [0xCB, 0xC6]
  | .set0A => [0xCB, 0xC7]
  | .set1B => [0xCB, 0xC8]
  | .set1C => [0xCB, 0xC9]
  | .set1D => [0xCB, 0xCA]
  | .set1E => [0xCB, 0xCB]
  | .set1H => [0xCB, 0xCC]
  | .set1L => [0xCB, 0xCD]
  | .set1IndHL => [0xCB, 0xCE]
  | .set1A => [0xCB, 0xCF]
  | .set2B => [0xCB, 0xD0]
  | .set2C => [0xCB, 0xD1]
  | .set2D => [0xCB, 0xD2]
  | .set2E => [0xCB, 0xD3]
  | .set2H => [0xCB, 0xD4]
  | .set2L => [0xCB, 0xD5]
  | .set2IndHL => [0xCB, 0xD6]
  | .set2A => [0xCB, 0xD7]
  | .set3B => [0xCB, 0xD8]
  | .set3C => [0xCB, 0xD9]
  | .set3D => [0xCB, 0xDA]
  | .set3E => [0xCB, 0xDB]
  | .set3H => [0xCB, 0xDC]
  | .set3L => [0xCB, 0xDD]
  | .set3IndHL => [0xCB, 0xDE]
  | .set3A => [0xCB, 0xDF]
  | .set4B => [0xCB, 0xE0]
  | .set4C => [0xCB, 0xE1]
  | .set4D => [0xCB, 0xE2]
  | .set4E => [0xCB, 0xE3]
  | .set4H => [0xCB, 0xE4]
  | .set4L => [0xCB, 0xE5]
  | .set4IndHL => [0xCB, 0xE6]
  | .set4A => [0xCB, 0xE7]
  | .set5B => [0xCB, 0xE8]
  | .set5C => [0xCB, 0xE9]
  | .set5D => [0xCB, 0xEA]
  | .set5E => [0xCB, 0xEB]
  | .set5H => [0xCB, 0xEC]
  | .set5L => [0xCB, 0xED]
  | .set5IndHL => [0xCB, 0xEE]
  | .set5A => [0xCB, 0xEF]
  | .set6B => [0xCB, 0xF0]
  | .set6C => [0xCB, 0xF1]
  | .set6D => [0xCB, 0xF2]
  | .set6E => [0xCB, 0xF3]
  | .set6H => [0xCB, 0xF4]
  | .set6L => [0xCB, 0xF5]
  | .set6IndHL => [0xCB, 0xF6]
  | .set6A => [0xCB, 0xF7]
  | .set7B => [0xCB, 0xF8]
  | .set7C => [0xCB, 0xF9]
  | .set7D => [0xCB, 0xFA]
  | .set7E => [0xCB, 0xFB]
  | .set7H => [0xCB, 0xFC]
  | .set7L => [0xCB, 0xFD]
  | .set7IndHL => [0xCB, 0xFE]
  | .set7A => [0xCB, 0xFF]

end Sys2Proof
end

