-- ==== Sys2Proof/Machine/PrefixCb.lean ====
section
/-! DEFINITION. The CB prefix handler (spec R373, R390). -/

namespace Sys2Proof.Machine

/-- The operation of the sub-table a sub-opcode selects, by its fields (R390). -/
def runCb (sub : Byte) (s : State) : Result :=
  match fieldX sub with
  | 0 => shift (shiftOf (fieldY sub)) (operandOf (fieldZ sub)) s
  | 1 => bitTest (bitNoOf (fieldY sub)) (operandOf (fieldZ sub)) s
  | 2 => bitRes (bitNoOf (fieldY sub)) (operandOf (fieldZ sub)) s
  | _ => bitSet (bitNoOf (fieldY sub)) (operandOf (fieldZ sub)) s

/-- PREFIX CB as the handler of the opcode byte 0xCB alone: under CB_EXT = refuse it is refused with the sub-opcode
not fetched; under CB_EXT = table it fetches the sub-opcode and runs the operation it selects (R373;
assumption 14). -/
def execPrefixCb (s : State) : Result :=
  match s.params.cbExt with
  | .refuse => .refused (.cbExtensionExternal 0xCB)
  | .table => runCb s.fetch8.1 s.fetch8.2

end Sys2Proof.Machine
end

