-- ==== Sys2Proof/Machine/Stack.lean ====
section
/-! DEFINITION. PUSH and POP (spec R310 to R315). -/

namespace Sys2Proof.Machine

/-! ## What the instructions of a shape do -/

/-- PUSH rr: `push16(xx[rr])` (R312, R314). -/
def push (q : StackPair) (s : State) : Result :=
  .next ((s.push16 (s.stackPair q)).report (s.count (.push q)))

/-- POP rr: `xx[rr] <- pop16()` (R313, R315). -/
def pop (q : StackPair) (s : State) : Result :=
  let (v, s1) := s.pop16
  .next ((s1.setStackPair q v).report (s.count (.pop q)))

/-! ## One meaning for each row -/

/-- PUSH BC (R312) -/
def execPushBC (s : State) : Result := push .BC s
/-- PUSH DE (R312) -/
def execPushDE (s : State) : Result := push .DE s
/-- PUSH HL (R312) -/
def execPushHL (s : State) : Result := push .HL s
/-- PUSH AF (R314) -/
def execPushAF (s : State) : Result := push .AF s

/-- POP BC (R313) -/
def execPopBC (s : State) : Result := pop .BC s
/-- POP DE (R313) -/
def execPopDE (s : State) : Result := pop .DE s
/-- POP HL (R313) -/
def execPopHL (s : State) : Result := pop .HL s
/-- POP AF (R315) -/
def execPopAF (s : State) : Result := pop .AF s

end Sys2Proof.Machine
end

