-- ==== Sys2Proof/Machine/Fetch.lean ====
section
/-! DEFINITION. What a step does around the meaning of an instruction: the idle states, the interrupt check, the
opcode and operand fetch, the profile gate (spec R100 to R103, R105, R369, R443). -/

namespace Sys2Proof.Machine

/-- The outputs of a step are empty when it starts (assumptions 8, 9). -/
def State.beginStep (s : State) : State := { s with cycles := 0, bus := [] }

/-- What points 1 to 3 of R443 leave to do: nothing, or to fetch and run an instruction. -/
inductive Prepared where
  | done (s : State)
  | run (s : State)
  deriving DecidableEq, Repr

/-- An idle step: nothing changes, its count is reported (R443 points 1 and 3). -/
def State.idle (s : State) (f : CycleForm) : Prepared := .done (s.report (s.count f))

/-- Point 2 of R443 after the two reads: an enabled request wakes a halted core, and with IME set the interrupt
is entered; point 3. Where the step then ends in a fault, its state has `halted` as before the step
(assumption 11). -/
def checkInterrupts (s : State) : Prepared :=
  let (pending, iff, s1) := s.samplePending
  let s2 := { s1 with halted := s1.halted && pending == 0 }
  if s2.ime = true ∧ pending ≠ 0 then .done (s2.interruptEntry pending iff)
  else if s2.halted then s2.idle .idleHalted
  else .run s2

/-- Points 1 to 3 of R443. Under PROFILE = CORE they do not exist, nor do the bits they read (assumption 15). -/
def prepare (s : State) : Prepared :=
  match s.params.profile with
  | .core => .run s
  | .full =>
    if s.stopped then s.idle .idleStopped
    else
      match s.params.irq with
      | .canonical => checkInterrupts s
      | .none => if s.halted then s.idle .idleHalted else .run s

/-- The opcode fetch does not advance pc: the HALT bug is in force (R369; assumptions 15, 16). -/
def State.heldBack (s : State) : Bool := decide (s.params.profile = .full) && s.haltBug

/-- The opcode fetch (R101, R369). -/
def State.fetchOpcode (s : State) : Byte × State :=
  let (op, s1) := s.busRead s.pc
  (op, { s1 with
          fetchedAt := s.pc
          haltBug := s.haltBug && !s.heldBack
          pc := if s.heldBack then s.pc else s.pc + 1 })

/-- The profile gate (R103). -/
def profileGate (s : State) (op : Byte) : Option Refusal :=
  if s.params.profile = .core ∧ isTierT2 op = true then some (.notSpecifiedBySource op) else none

/-- The operand fetch and the decoding: one `fetch8()` for each operand byte of the format (R105). Under
CB_EXT = refuse the sub-opcode is not fetched (R373). -/
def fetchInstr (op : Byte) (s : State) : Instr × State :=
  if op = 0xCB ∧ s.params.cbExt = .refuse then (.prefixCb, s)
  else
    match operandCount op with
    | 0 => (decodeMain op 0 0, s)
    | 1 => (decodeMain op s.fetch8.1 0, s.fetch8.2)
    | _ => (decodeMain op s.fetch8.1 s.fetch8.2.fetch8.1, s.fetch8.2.fetch8.2)

/-- The addresses show cells of the model's own, and these hold the bytes. -/
def State.shows (s : State) : List (Word × Byte) → Bool
  | [] => true
  | (a, v) :: rest => !external s.params.regions a && s.peek a == v && s.shows rest

/-- Bytes placed in the cells the addresses show, past every write policy, as a loader places them (R475). -/
def State.place (s : State) : List (Word × Byte) → State
  | [] => s
  | (a, v) :: rest =>
    { s with mem := Memory.write s.mem (cellOf s.params.regions a).toNat v }.place rest

/-- The interrupt check of the next step would enter an interrupt (R447). -/
def State.wouldInterrupt (s : State) : Bool :=
  s.ime && decide (s.params.profile = .full) && decide (s.params.irq = .canonical) &&
    s.samplePending.1 != 0

/-- The state with the instruction's bytes at pc, so that the very next step fetches and runs it: the core is
neither halted nor stopped, the opcode fetch advances pc, and no interrupt comes first (assumption 13). -/
def State.loadAtPc (s : State) (nbits w : Nat) : State :=
  let v := w % 2 ^ nbits
  let bytes : List (Word × Byte) :=
    [(s.pc, BitVec.ofNat 8 v), (s.pc + 1, BitVec.ofNat 8 (v / 256)),
     (s.pc + 2, BitVec.ofNat 8 (v / 65536))]
  let s1 := { s with halted := false, stopped := false, haltBug := false }
  let s2 := s1.place bytes
  let s3 :=
    if s2.shows bytes then s2
    else { s1 with params := { s1.params with regions := [] } }.place bytes
  if s3.wouldInterrupt then { s3 with ime := false } else s3

end Sys2Proof.Machine
end

