-- ==== Sys2Proof/Machine/Run.lean ====
section
/-! DEFINITION. The handler of an opcode byte invoked directly, and how a step that runs an instruction ends (spec R104,
R374, R422, R443 points 4 to 6). -/

namespace Sys2Proof.Machine

/-- `Exec(op, state)`: the profile gate and the handler of an opcode byte, without the opcode fetch (R103, R104). -/
def execOpcode (op : Byte) (s : State) : Result :=
  match profileGate s op with
  | some r => .refused r
  | none => exec (fetchInstr op s).1 (fetchInstr op s).2

/-- How the step from `s` ends (R374, R422, R443 points 5 and 6). A next state: the delayed effect of EI, `s` having
ei_delay as the previous step left it; under PROFILE = CORE there is no point 6 (assumption 15). A fault: the state
before the step except that pc is the opcode's address plus 1, also where this step woke a halted core or consumed
halt_bug; `Mem` is as the step's reads left it (assumption 11). -/
def finishStep (s : State) : Result → Result
  | .next t =>
    .next (if t.params.profile = .full ∧ s.eiDelay = true ∧ t.eiDelay = true
      then { t with ime := true, eiDelay := false } else t)
  | .fault (.undefinedOpcode op address t) =>
    .fault (.undefinedOpcode op address
      { s with
        pc := address + 1, device := t.device, fetchedAt := t.fetchedAt, cycles := t.cycles, bus := t.bus })
  | .refused r => .refused r

/-- The opcode fetch, then the handler: `Step(s) = Exec(op, s after R101)` (R104). -/
def runInstruction (s : State) : Result := execOpcode s.fetchOpcode.1 s.fetchOpcode.2

end Sys2Proof.Machine
end

