-- ==== Sys2Proof/Machine/Step.lean ====
section
/-! DEFINITION. One step of the machine (spec R14, R100, R104, R443). -/

namespace Sys2Proof.Machine

/-- One step (R443; R100 under PROFILE = CORE). -/
def step (s : State) : Host.Outcome State Fault Refusal :=
  match prepare s.beginStep with
  | .done t => .next t
  | .run t => finishStep s (runInstruction t)

/-- The state with an instruction stored where the next step fetches it (assumption 13). -/
def State.withFetchWord (s : State) (nbits w : Nat) : State := s.loadAtPc nbits w

end Sys2Proof.Machine
end

