-- ==== Sys2Proof/Safety.lean ====
section
/-! DEFINITION. What claims about the machine are stated in: the invariant, safe runs, what a step keeps, what a store leaves
in memory, and the numbers of the operand tables of spec R106. -/

namespace Sys2Proof.Machine

/-! ## The invariant and safe runs -/

/-- The state invariant (R40, R44, R66, R369, R370): the memory is in canonical form; under PROFILE = CORE the bits of
R40 keep their reset value; at most one of stopped, halted and halt_bug is set; stopped and halt_bug are set
only under the parameter that lets an instruction set them. -/
def State.Inv (s : State) : Prop :=
  Memory.wf s.mem = true ∧
  (s.params.profile = .core →
    s.ime = false ∧ s.eiDelay = false ∧ s.halted = false ∧ s.stopped = false ∧ s.haltBug = false) ∧
  (s.stopped = true → s.params.stop = .stopped ∧ s.halted = false ∧ s.haltBug = false) ∧
  (s.halted = true → s.haltBug = false) ∧
  (s.haltBug = true → s.params.irq = .canonical ∧ s.params.haltBug = .canonical)

/-- `k` steps from `s` end in `t`: none of them was a fault or a refusal (R14, R422). -/
def SafeRun (k : Nat) (s t : State) : Prop := Sys2Proof.core.run k s = .next t

/-! ## What an instruction keeps and what it leaves -/

/-- The collaborator's state after the accesses, made in this order (R64, R66). -/
def deviceAfter (p : Params) : Nat → List BusAccess → Nat
  | d, [] => d
  | d, .read a _ :: rest => deviceAfter p (readDevice p d a) rest
  | d, .write a v :: rest => deviceAfter p (writeDevice p d a v) rest

/-- Unchanged from `s` to `t`: every register but those in `regs`; every byte of memory but at addresses that show the
same cell as one of `stored`; the bits of R40; the parameters; the address of the last opcode fetch. What an address
of an external region reads as is `t.device`'s, which `Ends` says. -/
def Kept (s t : State) (regs : List Reg) (stored : List Word) : Prop :=
  (∀ r, r ∉ regs → t.reg r = s.reg r) ∧
  (∀ a, external s.params.regions a = false →
    (∀ b ∈ stored, cellOf s.params.regions a ≠ cellOf s.params.regions b) → t.peek a = s.peek a) ∧
  t.ime = s.ime ∧ t.eiDelay = s.eiDelay ∧ t.halted = s.halted ∧ t.stopped = s.stopped ∧
  t.haltBug = s.haltBug ∧ t.params = s.params ∧ t.fetchedAt = s.fetchedAt

/-- What `t` holds besides registers and memory: the four flags, SP, PC, the accesses made since `s`, in order, the
collaborator's state after them, and the cycle count reported. -/
def Ends (s t : State) (flags : Flags) (sp pc : Word) (accesses : List BusAccess) (cycles : Nat) : Prop :=
  t.flags = flags ∧ t.sp = sp ∧ t.pc = pc ∧ t.bus = s.bus ++ accesses ∧
  t.device = deviceAfter s.params s.device accesses ∧ t.cycles = cycles

/-- After a write of `v` the address holds `v`; where its region keeps no write it holds what it held (R65 (a) to (c)).
In an external region the write is delivered to the collaborator, and what the address then holds is its own. -/
def Holds (s t : State) (a : Word) (v : Byte) : Prop :=
  external s.params.regions a = false → t.peek a = if writable s.params.regions a then v else s.peek a

/-- After a write of `first` at `a` and then of `last` at `b` (R71, R310): `b` holds `last`, and `a` holds `first`
unless it shows the same cell as `b`. -/
def HoldsBoth (s t : State) (a : Word) (first : Byte) (b : Word) (last : Byte) : Prop :=
  (cellOf s.params.regions a ≠ cellOf s.params.regions b → Holds s t a first) ∧ Holds s t b last

/-! ## The operand tables of R106 by their numbers -/

/-- The number of a register in the table `r`. -/
def regNumber : Reg → Nat
  | .B => 0
  | .C => 1
  | .D => 2
  | .E => 3
  | .H => 4
  | .L => 5
  | .A => 7

/-- The number of an operand in the table `r`. -/
def operandNumber : Operand → Nat
  | .reg r => regNumber r
  | .indHL => 6

/-- The number of a pair in the table `rp`. -/
def pairNumber : Pair → Nat
  | .BC => 0
  | .DE => 1
  | .HL => 2
  | .SP => 3

/-- The number of a pair in the table `rp2`. -/
def stackPairNumber : StackPair → Nat
  | .BC => 0
  | .DE => 1
  | .HL => 2
  | .AF => 3

/-- The number of a condition (R330). -/
def condNumber : Cond → Nat
  | .NZ => 0
  | .Z => 1
  | .NC => 2
  | .C => 3

/-- The number of an accumulator operation in the table `alu`. -/
def aluNumber : AluOp → Nat
  | .add => 0
  | .adc => 1
  | .sub => 2
  | .sbc => 3
  | .and => 4
  | .xor => 5
  | .or => 6
  | .cp => 7

/-- The number of a CB-table rotate or shift (R390). -/
def shiftNumber : ShiftOp → Nat
  | .rot .rlc => 0
  | .rot .rrc => 1
  | .rot .rl => 2
  | .rot .rr => 3
  | .sla => 4
  | .sra => 5
  | .swap => 6
  | .srl => 7

/-- The registers a pair is made of; SP is made of none (R24, R26, R27). -/
def pairRegs : Pair → List Reg
  | .BC => [.B, .C]
  | .DE => [.D, .E]
  | .HL => [.H, .L]
  | .SP => []

/-- The registers a pair of PUSH and POP is made of; the low half of AF is the flags (R28). -/
def stackPairRegs : StackPair → List Reg
  | .BC => [.B, .C]
  | .DE => [.D, .E]
  | .HL => [.H, .L]
  | .AF => [.A]

/-- The registers an operand is: a register, or none. -/
def operandRegs : Operand → List Reg
  | .reg r => [r]
  | .indHL => []

/-- The addresses an operand is: none, or HL. -/
def operandAddrs (s : State) : Operand → List Word
  | .reg _ => []
  | .indHL => [s.hl]

/-- The value of an operand: the register, or the byte at HL (R106, R208). -/
def operandValue (s : State) : Operand → Byte
  | .reg r => s.reg r
  | .indHL => s.peek s.hl

/-- The one read an operand takes: none, or the byte at HL (R76, R390). -/
def operandReads (s : State) : Operand → List BusAccess
  | .reg _ => []
  | .indHL => [.read s.hl (s.peek s.hl)]

/-- The one write an operand takes: none, or the byte at HL (R76, R390). -/
def operandWrites (s : State) (v : Byte) : Operand → List BusAccess
  | .reg _ => []
  | .indHL => [.write s.hl v]

/-- After `v` is written to the operand: the register holds it, or the byte at HL does (R65). -/
def OperandHolds (s t : State) (x : Operand) (v : Byte) : Prop :=
  match x with
  | .reg r => t.reg r = v
  | .indHL => Holds s t s.hl v

/-- Where HL stands after a memory form: (HL+) and (HL-) move it by one (R208). -/
def hlAfter (m : AddrForm) (hl : Word) : Word :=
  match m with
  | .indHLI => hl + 1
  | .indHLD => hl - 1
  | _ => hl

/-- The registers a memory form writes beside A (R208). -/
def formRegs : AddrForm → List Reg
  | .indHLI => [.H, .L]
  | .indHLD => [.H, .L]
  | _ => []

/-- The byte at `b` once `a` has been read (R66). -/
def State.peekAfter (s : State) (a b : Word) : Byte := (s.afterRead a).peek b

/-- The 16-bit value at `a`: the low byte, read first, at `a`, the high byte at `a + 1` (R70, R311). -/
def wordAt (s : State) (a : Word) : Word := word (s.peekAfter a (a + 1)) (s.peek a)

/-- The two reads of the 16-bit value at `a` (R70, R311). -/
def wordReads (s : State) (a : Word) : List BusAccess :=
  [.read a (s.peek a), .read (a + 1) (s.peekAfter a (a + 1))]

/-- The first operand byte of an instruction whose opcode byte is fetched, read at pc (R107, R109). -/
def operandByte (s : State) : Byte := s.peek s.pc

/-- The 16-bit immediate, low byte at pc, high byte at pc + 1 (R108). -/
def operandWord (s : State) : Word := wordAt s s.pc

/-- The state after one operand byte is fetched (R11, R31). -/
def afterOperand (s : State) : State :=
  { s with pc := s.pc + 1, device := deviceAfter s.params s.device [.read s.pc (s.peek s.pc)],
           bus := s.bus ++ [.read s.pc (s.peek s.pc)] }

/-- The state after two operand bytes are fetched, the lower address first (R11, R31, R108). -/
def afterOperands (s : State) : State :=
  { s with pc := s.pc + 2, device := deviceAfter s.params s.device (wordReads s s.pc),
           bus := s.bus ++ wordReads s s.pc }

/-- The bytes that reads of the `n` addresses from `a` on give, made one after the other (R11, R66). -/
def bytesFrom (s : State) (a : Word) : Nat → List Byte
  | 0 => []
  | n + 1 => s.peek a :: bytesFrom (s.afterRead a) (a + 1) n

/-- Those reads (R11, R76). -/
def readsFrom (s : State) (a : Word) : Nat → List BusAccess
  | 0 => []
  | n + 1 => .read a (s.peek a) :: readsFrom (s.afterRead a) (a + 1) n

/-- The requests that are both set in IF and enabled in IE, of the five sources (R441). -/
def pendingRequests (s : State) : Byte := s.peek 0xFFFF &&& s.peek 0xFF0F &&& 0x1F

/-- The two reads of the interrupt check, made only where the core samples requests (R440, R443 point 2). -/
def checkReads (s : State) : List BusAccess :=
  if s.params.profile = .full ∧ s.params.irq = .canonical then
    [.read 0xFFFF (s.peek 0xFFFF), .read 0xFF0F (s.peek 0xFF0F)]
  else []

/-- The next step neither idles nor enters an interrupt: the core is neither stopped nor halted, and where it samples
requests, IME is clear or none is pending (R443 points 1 to 3). -/
def RunsNext (s : State) : Prop :=
  s.stopped = false ∧ s.halted = false ∧
  (s.params.profile = .full → s.params.irq = .canonical → s.ime = true → pendingRequests s = 0)

/-- Points 5 and 6 of R443 under PROFILE = FULL: after an instruction that found ei_delay set and leaves it set, IME is set
and ei_delay cleared. -/
def afterInstruction (s t : State) : State :=
  if s.params.profile = .full ∧ s.eiDelay = true ∧ t.eiDelay = true then
    { t with ime := true, eiDelay := false }
  else t

end Sys2Proof.Machine
end

