-- ==== Sys2Proof/Certificates/Slice0/Obligations.lean ====
section
/-! DEFINITION. The statements about the machine, for the provers. -/

section Obligations

open Sys2Proof Sys2Proof.Machine

/-! ## Encoding and decoding -/

/-- Words written out bit by bit from the encodings of R180, R181, R182, R200, R207, R312, R331, R335, R341,
R374, R391, R407, R411 decode to the instructions they stand for. -/
def Obligations.DecodeWordsAgree : Prop :=
  decode [0b00000000#8] = .ok (.nop, []) ∧
  decode [0b01000001#8] = .ok (.ldBC, []) ∧
  decode [0b00111110#8, 0b01000010#8] = .ok (.ldAn 0x42, []) ∧
  decode [0b00000001#8, 0b00110100#8, 0b00010010#8] = .ok (.ldBCnn 0x1234, []) ∧
  decode [0b00001000#8, 0b00010000#8, 0b11000010#8] = .ok (.ldIndNNSP 0xC210, []) ∧
  decode [0b11010101#8] = .ok (.pushDE, []) ∧
  decode [0b11000011#8, 0b01010000#8, 0b00000001#8] = .ok (.jpNn 0x0150, []) ∧
  decode [0b00101000#8, 0b11111100#8] = .ok (.jrZe 0xFC, []) ∧
  decode [0b11101111#8] = .ok (.rst28, []) ∧
  decode [0b11011101#8] = .ok (.undefined 0xDD, []) ∧
  decode [0b11001011#8, 0b00000101#8] = .ok (.rlcL, []) ∧
  decode [0b11001011#8, 0b01111100#8] = .ok (.bit7H, []) ∧
  decode [0b11001011#8, 0b11001011#8] = .ok (.set1E, [])

/-- Decoding the bytes of a well-formed instruction gives it back, whatever its operands. -/
def Obligations.DecodeEncodeRoundTrip : Prop :=
  ∀ i : Instr, i.wf = true → decode (encode i) = .ok (i, [])

/-- An instruction is 1 to 3 bytes long, its first byte alone fixes its length, and it decodes the same
whatever bytes follow it (R105, R115). The bare prefix, which is no whole instruction, is the one exception.
-/
def Obligations.FirstByteFixesLength : Prop :=
  ∀ i : Instr, i.wf = true → i ≠ .prefixCb →
    (1 ≤ (encode i).length ∧ (encode i).length ≤ 3) ∧
    (∀ rest : List Byte, decode (encode i ++ rest) = .ok (i, rest)) ∧
    (∀ j : Instr, j.wf = true → j ≠ .prefixCb → (encode j).head? = (encode i).head? →
      (encode j).length = (encode i).length)

/-- The dispatch table is total, and the bytes without an instruction are exactly the eleven of R113; in the
CB sub-table there is none (R114, R390). -/
def Obligations.UndefinedBytesAreEleven : Prop :=
  (∀ op b1 b2 : Byte,
    (op ∈ [(0xD3 : Byte), 0xDB, 0xDD, 0xE3, 0xE4, 0xEB, 0xEC, 0xED, 0xF4, 0xFC, 0xFD] →
      decodeMain op b1 b2 = .undefined op) ∧
    (op ∉ [(0xD3 : Byte), 0xDB, 0xDD, 0xE3, 0xE4, 0xEB, 0xEC, 0xED, 0xF4, 0xFC, 0xFD] →
      ∀ x, decodeMain op b1 b2 ≠ .undefined x)) ∧
  (∀ sub x : Byte, decodeCb sub ≠ .undefined x)

/-- PREFIX CB (R373, R390). Under CB_EXT = table it fetches the sub-opcode and runs, in the same step, the
operation the sub-opcode's fields select, and completes. Under CB_EXT = refuse it is refused, the sub-opcode
not fetched; so is the step that reads the byte 0xCB at pc where the profile gate lets it through. -/
def Obligations.PrefixCbRunsSubOpcode : Prop :=
  encode .prefixCb = [0xCB] ∧
  (∀ s : State, s.params.cbExt = .table →
    exec .prefixCb s = exec (decodeCb (operandByte s)) (afterOperand s) ∧
    fetchInstr 0xCB s = (decodeCb (operandByte s), afterOperand s) ∧
    ∃ t, exec .prefixCb s = .next t ∧ t.pc = s.pc + 1 ∧ t.sp = s.sp) ∧
  (∀ s : State, s.params.cbExt = .refuse →
    exec .prefixCb s = .refused (.cbExtensionExternal 0xCB) ∧
    fetchInstr 0xCB s = (.prefixCb, s) ∧
    (s.params.profile = .full → RunsNext s → s.peek s.pc = 0xCB →
      step s = .refused (.cbExtensionExternal 0xCB))) ∧
  (∀ op x, decodeCb (BitVec.ofNat 8 (8 * shiftNumber op + operandNumber x)) = Row.shift op x) ∧
  (∀ b x, decodeCb (BitVec.ofNat 8 (64 + 8 * bitIndex b + operandNumber x)) = Row.bit b x) ∧
  (∀ b x, decodeCb (BitVec.ofNat 8 (128 + 8 * bitIndex b + operandNumber x)) = Row.res b x) ∧
  (∀ b x, decodeCb (BitVec.ofNat 8 (192 + 8 * bitIndex b + operandNumber x)) = Row.set b x)

/-! ## A step -/

/-- When the bytes at pc decode to `i`, and the core is to run an instruction, a step is `exec i` at the state
with the instruction's bytes fetched, followed by the delayed effect of EI; a fault or a refusal of `exec` is
the step's. That a fault carries `Mem` as the fetch's reads left it is the model's choice (assumption 11). -/
def Obligations.StepRunsDecoded : Prop :=
  ∀ (s : State) (i : Instr) (rest : List Byte),
    decode (bytesFrom s s.pc 3) = .ok (i, rest) →
    RunsNext s → s.haltBug = false →
    (s.params.profile = .core → isTierT2 (s.peek s.pc) = false) →
    (s.params.cbExt = .refuse → s.peek s.pc ≠ 0xCB) →
    let n := 3 - rest.length
    let ready : State :=
      { s with
        fetchedAt := s.pc, cycles := 0, pc := s.pc + BitVec.ofNat 16 n,
        device := deviceAfter s.params s.device (readsFrom s s.pc n),
        bus := checkReads s ++ readsFrom s s.pc n }
    (∀ t, exec i ready = .next t → step s = .next (afterInstruction s t)) ∧
    (∀ f, exec i ready = .fault f → step s = .fault f) ∧
    (∀ r, exec i ready = .refused r → step s = .refused r)

/-- Idle steps (R443 points 1 and 3): a stopped core, and a halted core with no enabled request pending,
change nothing and report their count. The reads of the check have no side effect (R441). CYCLES gives every form
a count of its own, HALT and STOP, INC (HL) and DEC (HL) among them (R480); that it is a list of differences from
the default table, the first entry for a form counting, is the model's choice (assumption 8). -/
def Obligations.IdleStepsChangeNothing : Prop :=
  (∀ s : State, s.params.profile = .full → s.stopped = true →
    step s = .next { s with cycles := s.count .idleStopped, bus := [] }) ∧
  (∀ s : State, s.params.profile = .full → s.stopped = false → s.halted = true →
    (s.params.irq = .canonical → pendingRequests s = 0) →
    step s = .next { s with cycles := s.count .idleHalted, bus := checkReads s }) ∧
  defaultCount .idleStopped = 4 ∧ defaultCount .idleHalted = 4 ∧
  (∀ (s : State) (f : CycleForm), (∀ e ∈ s.params.cycles, e.1 ≠ f) → s.count f = defaultCount f) ∧
  (∀ (s : State) (f : CycleForm) (n : Nat) (before rest : List (CycleForm × Nat)),
    s.params.cycles = before ++ (f, n) :: rest → (∀ e ∈ before, e.1 ≠ f) → s.count f = n)

/-- A halted core with IME clear leaves HALT at the first step at which an enabled request is pending, and
that step runs the next instruction (R368, R443 point 2). If that step ends in the fault of R422, the state
the fault carries has the core still halted, as before the step; R443 point 2 clears `halted` first, so this
is the model's choice (assumption 11). -/
def Obligations.WakeFromHaltRunsNext : Prop :=
  ∀ s : State, s.params.profile = .full → s.params.irq = .canonical → s.stopped = false →
    s.halted = true → s.ime = false → pendingRequests s ≠ 0 →
    (∀ t, step { s with halted := false } = .next t → step s = .next t) ∧
    (∀ r, step { s with halted := false } = .refused r → step s = .refused r) ∧
    (∀ op a t, step { s with halted := false } = .fault (.undefinedOpcode op a t) →
      step s = .fault (.undefinedOpcode op a { t with halted := true }))

/-- Interrupt entry (R442, R443 point 2, R444): with IME set, the lowest pending request is entered before any
opcode is fetched. That `haltBug` and `stopped` are as before is the model's reading (assumption 12). -/
def Obligations.InterruptEntryTakesLowest : Prop :=
  (∀ (s : State) (k : Nat), s.params.profile = .full → s.params.irq = .canonical → s.stopped = false →
    s.ime = true → k < 5 → (pendingRequests s).getLsbD k = true →
    (∀ j, j < k → (pendingRequests s).getLsbD j = false) →
    let request : Byte := s.peek 0xFF0F &&& BitVec.ofNat 8 (255 - 2 ^ k)
    ∃ t, step s = .next t ∧
      t.pc = BitVec.ofNat 16 (0x0040 + 8 * k) ∧ t.sp = s.sp - 2 ∧
      t.mem = (((s.store (s.sp - 1) (hiByte s.pc)).store (s.sp - 2) (loByte s.pc)).store 0xFF0F request).mem ∧
      (∀ a, external s.params.regions a = false → (∀ b ∈ [s.sp - 1, s.sp - 2, (0xFF0F : Word)],
        cellOf s.params.regions a ≠ cellOf s.params.regions b) → t.peek a = s.peek a) ∧
      t.ime = false ∧ t.eiDelay = false ∧ t.halted = false ∧ t.stopped = s.stopped ∧ t.haltBug = s.haltBug ∧
      t.regs = s.regs ∧ t.flags = s.flags ∧ t.params = s.params ∧ t.fetchedAt = s.fetchedAt ∧
      t.cycles = s.count .interruptEntry ∧
      t.bus = [.read 0xFFFF (s.peek 0xFFFF), .read 0xFF0F (s.peek 0xFF0F),
        .write (s.sp - 1) (hiByte s.pc), .write (s.sp - 2) (loByte s.pc), .write 0xFF0F request] ∧
      t.device = deviceAfter s.params s.device t.bus) ∧
  defaultCount .interruptEntry = 20

/-- When EI takes effect (R446, R443 point 6): at the end of the instruction after it, IME is set; if that
instruction is DI, IME is clear. -/
def Obligations.EiTakesEffectOneInstructionLate : Prop :=
  ∀ s t : State, s.params.profile = .full → s.eiDelay = true → RunsNext s → step s = .next t →
    t.eiDelay = false ∧ t.ime = !decide (s.peek s.pc = 0xF3)

/-- The HALT bug at the next opcode fetch (R369): pc is not advanced and halt_bug is cleared, so the first
operand byte, where the instruction has one, is read from the opcode's own address, and pc ends short by one.
That the operand fetches start there, and that a state with halt_bug set under HALT_BUG = refuse is held back
too, is the model's reading (assumption 16). A fault then carries halt_bug as before the step and pc at the
address after the opcode, as R374 and R422 say; that this holds under the HALT bug is the model's choice
(assumption 11). -/
def Obligations.HaltBugFetchHoldsPc : Prop :=
  ∀ (s : State) (i : Instr) (rest : List Byte),
    s.params.profile = .full → s.haltBug = true → RunsNext s →
    (s.params.cbExt = .refuse → s.peek s.pc ≠ 0xCB) →
    let fetched := s.afterRead s.pc
    decode (s.peek s.pc :: bytesFrom fetched s.pc 2) = .ok (i, rest) →
    let k := 2 - rest.length
    let reads := .read s.pc (s.peek s.pc) :: readsFrom fetched s.pc k
    let ready : State :=
      { s with
        fetchedAt := s.pc, haltBug := false, cycles := 0, pc := s.pc + BitVec.ofNat 16 k,
        device := deviceAfter s.params s.device reads, bus := checkReads s ++ reads }
    (∀ t, exec i ready = .next t → step s = .next (afterInstruction s t)) ∧
    (∀ op a t, exec i ready = .fault (.undefinedOpcode op a t) →
      step s = .fault (.undefinedOpcode op a { t with pc := a + 1, haltBug := true })) ∧
    (∀ r, exec i ready = .refused r → step s = .refused r)

/-- Direct invocation (R104): `Exec(op, s)` is the handler of `op` at the given pc, its operand bytes fetched
from there; under PROFILE = CORE an opcode of tier T2 is refused instead (R5, R103). `Step(s)` is `Exec(op, s
after R101)`; under PROFILE = FULL, where the core runs an instruction, the check of R443 comes before it and
the effect of EI after it. That a step's fault carries `Mem` as its reads left it is the model's choice
(assumption 11). -/
def Obligations.StepIsDirectInvocationAfterFetch : Prop :=
  (∀ (op : Byte) (s : State), (s.params.profile = .core → isTierT2 op = false) →
    (s.params.cbExt = .refuse → op ≠ 0xCB) →
    ∃ i rest, decode (op :: bytesFrom s s.pc 2) = .ok (i, rest) ∧
      let reads := readsFrom s s.pc (2 - rest.length)
      execOpcode op s = exec i
        { s with
          pc := s.pc + BitVec.ofNat 16 reads.length,
          device := deviceAfter s.params s.device reads, bus := s.bus ++ reads }) ∧
  (∀ (op : Byte) (s : State), s.params.profile = .core → isTierT2 op = true →
    execOpcode op s = .refused (.notSpecifiedBySource op)) ∧
  (∀ s : State, RunsNext s → s.haltBug = false →
    let fetched : State :=
      { s with
        fetchedAt := s.pc, cycles := 0, pc := s.pc + 1, device := readDevice s.params s.device s.pc,
        bus := checkReads s ++ [.read s.pc (s.peek s.pc)] }
    (∀ t, execOpcode (s.peek s.pc) fetched = .next t → step s = .next (afterInstruction s t)) ∧
    (∀ f, execOpcode (s.peek s.pc) fetched = .fault f → step s = .fault f) ∧
    (∀ r, execOpcode (s.peek s.pc) fetched = .refused r → step s = .refused r))

/-- The profile gate (R103) and the tiers of the grid of R111: under PROFILE = CORE an opcode byte of tier T2
is refused and no handler runs, one of tier T1 is not; under PROFILE = FULL no opcode byte is refused so. That
a step under PROFILE = CORE does not look at the bits of R40 is the model's reading (assumption 15). -/
def Obligations.ProfileGateByTier : Prop :=
  (∀ s : State, s.params.profile = .core → isTierT2 (s.peek s.pc) = true →
    step s = .refused (.notSpecifiedBySource (s.peek s.pc))) ∧
  (∀ (s : State) (r : Refusal), s.params.profile = .core → isTierT2 (s.peek s.pc) = false →
    step s ≠ .refused r) ∧
  (∀ (s : State) (op : Byte), s.params.profile = .full → step s ≠ .refused (.notSpecifiedBySource op)) ∧
  (∀ op : Byte, isTierT2 op = false ↔
    let n := op.toNat
    (0x40 ≤ n ∧ n < 0xA0 ∧ n ≠ 0x76) ∨
    (n < 0x40 ∧ n % 16 ∈ [1, 3, 6, 9, 11, 12, 13, 14]) ∨ (n < 0x40 ∧ n % 16 ∈ [4, 5] ∧ n / 16 ≠ 3) ∨
    (n < 0x20 ∧ n % 16 ∈ [2, 10]) ∨ n = 0x00 ∨ n = 0x08 ∨
    (0xC0 ≤ n ∧ n % 16 ∈ [1, 5]) ∨ n = 0xEA ∨ n = 0xFA ∨ op ∈ undefinedOpcodes)

/-! ## Rules of the whole machine -/

/-- The invariant holds at reset. -/
def Obligations.InvHoldsAtReset : Prop := State.reset.Inv

/-- Every step keeps the invariant. -/
def Obligations.InvKeptByStep : Prop := ∀ s t : State, s.Inv → step s = .next t → t.Inv

/-- A safe run keeps the invariant and the parameters (R47). -/
def Obligations.SafeRunKeepsInvAndParams : Prop :=
  ∀ (k : Nat) (s t : State), s.Inv → SafeRun k s t → t.Inv ∧ t.params = s.params

/-- No step changes what an address reads as whose cell is in a read-only region (R65 (c)). That an address of
a mirror of a read-only cell is among these is the model's choice (assumption 5). -/
def Obligations.ReadOnlyNeverChanges : Prop :=
  ∀ (s t : State) (a : Word), step s = .next t → writable s.params.regions a = false →
    t.peek a = s.peek a

/-- Only DI, RETI, interrupt entry and the end of the instruction after an EI write IME (R447). -/
def Obligations.ImeWriters : Prop :=
  (∀ (i : Instr) (s t : State), exec i s = .next t → t.ime ≠ s.ime →
    (i = .di ∧ t.ime = false) ∨ (i = .reti ∧ t.ime = true)) ∧
  (∀ s t : State, step s = .next t → s.ime = false → t.ime = true →
    s.eiDelay = true ∨ s.peek s.pc = 0xD9) ∧
  (∀ s t : State, step s = .next t → s.ime = true → t.ime = false →
    s.peek s.pc = 0xF3 ∨ (s.params.irq = .canonical ∧ pendingRequests s ≠ 0))

/-- No instruction of tier T1 writes pc other than by fetching, and none touches the bits of R40 (R33, R40). -/
def Obligations.TierT1WritesNoPc : Prop :=
  ∀ (i : Instr) (s t : State), exec i s = .next t → isTierT2 ((encode i).headD 0) = false →
    t.pc = s.pc ∧ t.ime = s.ime ∧ t.eiDelay = s.eiDelay ∧ t.halted = s.halted ∧
      t.stopped = s.stopped ∧ t.haltBug = s.haltBug

/-- What may fail to complete (R14, R420, R425): UNDEFINED, by its fault; HALT in the HALT-bug situation, STOP
and PREFIX CB, each by its own refusal and only under its own parameter. Nothing else does: every other
instruction completes in every state. That these do stop is said by `UndefinedOpcodeFaults` (O56),
`HaltHaltsOrSetsBug` (O53), `StopStopsTheCore` (O54) and `PrefixCbRunsSubOpcode` (O5). -/
def Obligations.WhatDoesNotComplete : Prop :=
  ∀ (i : Instr) (s : State),
    (∃ t, exec i s = .next t) ∨
    (∃ op, i = .undefined op ∧ exec i s = .fault (.undefinedOpcode op s.fetchedAt s)) ∨
    (i = .halt ∧ s.params.irq = .canonical ∧ s.params.haltBug = .refuse ∧ s.ime = false ∧
      s.eiDelay = false ∧ pendingRequests s ≠ 0 ∧ exec i s = .refused (.haltBugNotModelled 0x76)) ∨
    (∃ pad, i = .stop pad ∧ s.params.stop = .refuse ∧ exec i s = .refused (.stopNotModelled 0x10)) ∨
    (i = .prefixCb ∧ s.params.cbExt = .refuse ∧ exec i s = .refused (.cbExtensionExternal 0xCB))

/-! ## Reset -/

/-- Construction from INIT (R470 to R472, R474): every register and flag holds its INIT value, the bits of R40
are clear, memory is the image and the collaborator's state handed over. -/
def Obligations.PowerOnFromInit : Prop :=
  ∀ (init : Init) (params : Params) (image : List Host.Cell) (device : Nat),
    let s := State.powerOn init params image device
    s.reg .A = init.a ∧ s.reg .B = init.b ∧ s.reg .C = init.c ∧ s.reg .D = init.d ∧ s.reg .E = init.e ∧
    s.reg .H = init.h ∧ s.reg .L = init.l ∧
    s.flags = { z := init.flagZ, n := init.flagN, h := init.flagH, c := init.flagC } ∧
    s.sp = init.sp ∧ s.pc = init.pc ∧
    s.ime = false ∧ s.eiDelay = false ∧ s.halted = false ∧ s.stopped = false ∧ s.haltBug = false ∧
    s.mem = image ∧ s.device = device ∧ s.params = params

/-- The reset state's registers: the default INIT of R471. Of these A = 0x01 is the document's; that the model
takes the rest of the spec's default is its choice (assumption 3). -/
def Obligations.ResetRegistersAreDefaultInit : Prop :=
  let s := State.reset
  s.reg .A = 0x01 ∧ s.reg .B = 0x00 ∧ s.reg .C = 0x13 ∧ s.reg .D = 0x00 ∧ s.reg .E = 0xD8 ∧
  s.reg .H = 0x01 ∧ s.reg .L = 0x4D ∧ s.flags.toByte = 0xB0 ∧ s.sp = 0xFFFE ∧ s.pc = 0x0100

/-! ## Registers and views -/

/-- The setters (R29) of a register, SP, PC and HL: a value out of range wraps; nothing else changes. -/
def Obligations.SettersWrap : Prop :=
  (∀ (s : State) (r : Reg) (v : Int),
    (((s.setRegInt r v).reg r).toNat : Int) = v % 256 ∧
    (∀ q, q ≠ r → (s.setRegInt r v).reg q = s.reg q) ∧
    s.setRegInt r v = { s with regs := (s.setRegInt r v).regs }) ∧
  (∀ (s : State) (v : Int),
    (((s.setPairInt .SP v).sp.toNat : Int) = v % 65536) ∧
    s.setPairInt .SP v = { s with sp := (s.setPairInt .SP v).sp }) ∧
  (∀ (s : State) (v : Int),
    (((s.setPcInt v).pc.toNat : Int) = v % 65536) ∧ s.setPcInt v = { s with pc := (s.setPcInt v).pc }) ∧
  (∀ (s : State) (v : Int), ((s.setPairInt .HL v).hl.toNat : Int) = v % 65536 ∧
    (∀ q, q ≠ .H → q ≠ .L → (s.setPairInt .HL v).reg q = s.reg q) ∧
    s.setPairInt .HL v = { s with regs := (s.setPairInt .HL v).regs })

/-- The pair views (R26, R27): high register times 256 plus low register, consistent with reads and writes of
the halves. -/
def Obligations.PairViewsConsistent : Prop :=
  ∀ s : State,
    ((s.pair .BC).toNat = (s.reg .B).toNat * 256 + (s.reg .C).toNat ∧
      (s.pair .DE).toNat = (s.reg .D).toNat * 256 + (s.reg .E).toNat ∧
      (s.pair .HL).toNat = (s.reg .H).toNat * 256 + (s.reg .L).toNat ∧ s.pair .HL = s.hl ∧
      s.pair .SP = s.sp) ∧
    (∀ (p : Pair) (v : Word), (s.setPair p v).pair p = v ∧
      (∀ r, r ∉ pairRegs p → (s.setPair p v).reg r = s.reg r)) ∧
    (∀ v : Word, ((s.setPair .HL v).reg .H).toNat = v.toNat / 256 ∧
      ((s.setPair .HL v).reg .L).toNat = v.toNat % 256) ∧
    (∀ v : Byte, (s.setReg .H v).hl.toNat = v.toNat * 256 + (s.reg .L).toNat ∧
      (s.setReg .L v).hl.toNat = (s.reg .H).toNat * 256 + v.toNat)

/-- The flag byte view F and the AF pair (R23, R28): the low nibble reads as zero and a write drops it. -/
def Obligations.FlagByteViewRoundTrips : Prop :=
  (∀ f : Flags, f.toByte.toNat = bit f.z * 128 + bit f.n * 64 + bit f.h * 32 + bit f.c * 16 ∧
    f.toByte &&& 0x0F = 0 ∧ Flags.ofByte f.toByte = f) ∧
  (∀ v : Byte, (Flags.ofByte v).toByte = v &&& 0xF0) ∧
  (∀ (s : State) (v : Word), (s.setStackPair .AF v).stackPair .AF = v &&& 0xFFF0 ∧
    (s.setStackPair .AF v).reg .A = hiByte v ∧
    (s.stackPair .AF).toNat = (s.reg .A).toNat * 256 + s.flags.toByte.toNat)

/-! ## Memory and the stack -/

/-- The policies (R65 (a) to (d)), at every address: after a write of `v` at `a`, `a` and every address that
shows the same cell read `v`, except where the cell is in a read-only region, and then nothing changes; no
other address changes (of two external addresses the collaborator may relate one to the other). An address of
a mirrored region shows the target's own cell (one level), and keeps a write unless that cell is in a
read-only region. In an external region the write goes to the collaborator and leaves the listed cells alone.
The model's choices are: that the first region of the table that holds an address decides, that mirrors have
one level, that a mirror's target wraps from 0xFFFF to 0x0000, and that a mirror of a read-only cell keeps no
write (assumption 5); that an address no region holds is a normal cell, and that MEM is given by such a table
(assumption 4); what an external region answers, and that a mirror of an external address asks the
collaborator for the target's own address (assumption 17). -/
def Obligations.WritePoliciesHold : Prop :=
  ∀ (s : State) (a : Word) (v : Byte), Memory.wf s.mem = true →
    let rs := s.params.regions
    (writable rs a = true → external rs a = false →
      (s.store a v).peek a = v ∧ (∀ b, cellOf rs b = cellOf rs a → (s.store a v).peek b = v)) ∧
    (writable rs a = false → s.store a v = s) ∧
    (∀ b, external rs a = false ∨ external rs b = false → cellOf rs b ≠ cellOf rs a →
      (s.store a v).peek b = s.peek b) ∧
    (external rs a = true →
      s.store a v = { s with device := Config.externalWrite s.device (cellOf rs a) v } ∧
      s.peek a = (Config.externalRead s.device (cellOf rs a)).1) ∧
    (∀ base size, regionAt rs a.toNat = some ⟨base, size, .normal⟩ →
      cellOf rs a = a ∧ writable rs a = true ∧ external rs a = false) ∧
    (∀ base size, regionAt rs a.toNat = some ⟨base, size, .readOnly⟩ →
      cellOf rs a = a ∧ writable rs a = false ∧ external rs a = false) ∧
    (∀ base size target, regionAt rs a.toNat = some ⟨base, size, .mirror target⟩ →
      let cell := target + BitVec.ofNat 16 (a.toNat - base)
      cellOf rs a = cell ∧
      (writable rs a = true ↔ ∀ b n, regionAt rs cell.toNat ≠ some ⟨b, n, .readOnly⟩) ∧
      (external rs a = true ↔ ∃ b n, regionAt rs cell.toNat = some ⟨b, n, .external⟩)) ∧
    (∀ base size, regionAt rs a.toNat = some ⟨base, size, .external⟩ →
      cellOf rs a = a ∧ writable rs a = true ∧ external rs a = true) ∧
    (regionAt rs a.toNat = none → cellOf rs a = a ∧ writable rs a = true ∧ external rs a = false) ∧
    Memory.wf (s.store a v).mem = true

/-- Push and pop undo each other (R310 to R315): where the two stack bytes are distinct cells that keep
writes, PUSH rr then POP rr gives back the pair, SP and the flags, and POP of another pair copies it. -/
def Obligations.PushPopRoundTrip : Prop :=
  ∀ (s : State) (q p : StackPair), Memory.wf s.mem = true →
    writable s.params.regions (s.sp - 1) = true → writable s.params.regions (s.sp - 2) = true →
    external s.params.regions (s.sp - 1) = false → external s.params.regions (s.sp - 2) = false →
    cellOf s.params.regions (s.sp - 1) ≠ cellOf s.params.regions (s.sp - 2) →
    ∃ t u v, exec (Row.push q) s = .next t ∧ t.sp = s.sp - 2 ∧
      exec (Row.pop q) t = .next u ∧ u.sp = s.sp ∧ u.regs = s.regs ∧ u.flags = s.flags ∧
      exec (Row.pop p) t = .next v ∧
      v.stackPair p = (if p = .AF then s.stackPair q &&& 0xFFF0 else s.stackPair q)

/-! ## The flag and ALU functions -/

/-- add8, sub8 and cp8 (R141, R142, R153). -/
def Obligations.AddSub8ResultsAndFlags : Prop :=
  (∀ (a b : Byte) (cin : Bool),
    (add8 a b cin).1.toNat = (a.toNat + b.toNat + bit cin) % 256 ∧
    (add8 a b cin).2 =
      { z := (add8 a b cin).1 == 0, n := false,
        h := decide ((a &&& 15).toNat + (b &&& 15).toNat + bit cin > 15),
        c := decide (a.toNat + b.toNat + bit cin > 255) }) ∧
  (∀ (a b : Byte) (cin : Bool),
    (sub8 a b cin).1 = a - b - BitVec.ofNat 8 (bit cin) ∧
    (sub8 a b cin).2 =
      { z := (sub8 a b cin).1 == 0, n := true,
        h := decide ((a &&& 15).toNat < (b &&& 15).toNat + bit cin),
        c := decide (a.toNat < b.toNat + bit cin) }) ∧
  (∀ a b : Byte, cp8 a b =
    { z := decide (a = b), n := true,
      h := decide ((a &&& 15).toNat < (b &&& 15).toNat), c := decide (a.toNat < b.toNat) })

/-- and8, xor8, or8 and the bit functions (R151, R152, R156). -/
def Obligations.LogicAndBitsResultsAndFlags : Prop :=
  (∀ a b : Byte,
    and8 a b = (a &&& b, { z := decide (a &&& b = 0), n := false, h := true, c := false }) ∧
    xor8 a b = (a ^^^ b, { z := decide (a = b), n := false, h := false, c := false }) ∧
    or8 a b = (a ||| b, { z := decide (a = 0 ∧ b = 0), n := false, h := false, c := false })) ∧
  (∀ (b : BitNo) (a : Byte) (f : Flags),
    bit8 b a f = { z := !a.getLsbD (bitIndex b), n := false, h := true, c := f.c } ∧
    (∀ k, k < 8 → (res8 b a).getLsbD k = (decide (k ≠ bitIndex b) && a.getLsbD k)) ∧
    (∀ k, k < 8 → (set8 b a).getLsbD k = (decide (k = bitIndex b) || a.getLsbD k)))

/-- The rotates and shifts (R155), and their flags in the CB-table and accumulator forms. -/
def Obligations.RotatesAndShiftsResultsAndFlags : Prop :=
  (∀ (a : Byte) (cin : Bool),
    shiftValue (.rot .rlc) a cin = (a.rotateLeft 1, a.getLsbD 7) ∧
    shiftValue (.rot .rrc) a cin = (a.rotateRight 1, a.getLsbD 0) ∧
    shiftValue (.rot .rl) a cin = (a <<< 1 ||| BitVec.ofNat 8 (bit cin), a.getLsbD 7) ∧
    shiftValue (.rot .rr) a cin = (a >>> 1 ||| BitVec.ofNat 8 (128 * bit cin), a.getLsbD 0) ∧
    shiftValue .sla a cin = (a <<< 1, a.getLsbD 7) ∧
    shiftValue .sra a cin = (a >>> 1 ||| (a &&& 128), a.getLsbD 0) ∧
    shiftValue .srl a cin = (a >>> 1, a.getLsbD 0) ∧
    shiftValue .swap a cin = ((a &&& 15) <<< 4 ||| a >>> 4, false)) ∧
  (∀ (op : ShiftOp) (a : Byte) (cin : Bool),
    shift8 op a cin =
      ((shiftValue op a cin).1,
        { z := (shiftValue op a cin).1 == 0, n := false, h := false, c := (shiftValue op a cin).2 })) ∧
  (∀ (op : RotOp) (a : Byte) (cin : Bool),
    rotateA op a cin =
      ((shiftValue (.rot op) a cin).1,
        { z := false, n := false, h := false, c := (shiftValue (.rot op) a cin).2 }))

/-! ## NOP and the 8-bit loads -/

/-- NOP (R180). -/
def Obligations.NopChangesNothing : Prop :=
  encode .nop = [0x00] ∧
  (∀ s : State, exec .nop s = .next { s with cycles := s.count .nop }) ∧
  defaultCount .nop = 4

/-- LD r,r' (R181). -/
def Obligations.LdRegRegCopies : Prop :=
  (∀ d r : Reg, encode (Row.ldRegReg d r) = [BitVec.ofNat 8 (0x40 + 8 * regNumber d + regNumber r)]) ∧
  (∀ (d r : Reg) (s : State), ∃ t, exec (Row.ldRegReg d r) s = .next t ∧
    t.reg d = s.reg r ∧ Kept s t [d] [] ∧ Ends s t s.flags s.sp s.pc [] (s.count (.ldRegReg d r)) ∧
    (d = r → t = { s with cycles := s.count (.ldRegReg d r) })) ∧
  (∀ d r, defaultCount (.ldRegReg d r) = 4)

/-- LD r,n (R182). -/
def Obligations.LdRegImmLoads : Prop :=
  (∀ (d : Reg) (n : Byte), encode (Row.ldRegImm d n) = [BitVec.ofNat 8 (0x06 + 8 * regNumber d), n]) ∧
  (∀ (d : Reg) (s : State), fetchInstr (BitVec.ofNat 8 (0x06 + 8 * regNumber d)) s =
    (Row.ldRegImm d (operandByte s), afterOperand s)) ∧
  (∀ (d : Reg) (n : Byte) (s : State), ∃ t, exec (Row.ldRegImm d n) s = .next t ∧
    t.reg d = n ∧ Kept s t [d] [] ∧ Ends s t s.flags s.sp s.pc [] (s.count (.ldRegImm d))) ∧
  (∀ d, defaultCount (.ldRegImm d) = 8)

/-- LD r,(HL) (R183): the address is formed from the old H and L. -/
def Obligations.LdRegIndHLLoads : Prop :=
  (∀ d : Reg, encode (Row.ldRegIndHL d) = [BitVec.ofNat 8 (0x46 + 8 * regNumber d)]) ∧
  (∀ (d : Reg) (s : State), ∃ t, exec (Row.ldRegIndHL d) s = .next t ∧
    t.reg d = s.peek s.hl ∧ Kept s t [d] [] ∧
    Ends s t s.flags s.sp s.pc [.read s.hl (s.peek s.hl)] (s.count (.ldRegIndHL d))) ∧
  (∀ d, defaultCount (.ldRegIndHL d) = 8)

/-- LD (HL),r and LD (HL),n (R184, R185). -/
def Obligations.LdIndHLStores : Prop :=
  (∀ r : Reg, encode (Row.ldIndHLReg r) = [BitVec.ofNat 8 (0x70 + regNumber r)]) ∧
  (∀ n : Byte, encode (.ldIndHLn n) = [0x36, n]) ∧
  (∀ s : State, fetchInstr 0x36 s = (.ldIndHLn (operandByte s), afterOperand s)) ∧
  (∀ (r : Reg) (s : State), Memory.wf s.mem = true → ∃ t, exec (Row.ldIndHLReg r) s = .next t ∧
    Holds s t s.hl (s.reg r) ∧ Kept s t [] [s.hl] ∧
    Ends s t s.flags s.sp s.pc [.write s.hl (s.reg r)] (s.count (.ldIndHLReg r))) ∧
  (∀ (n : Byte) (s : State), Memory.wf s.mem = true → ∃ t, exec (.ldIndHLn n) s = .next t ∧
    Holds s t s.hl n ∧ Kept s t [] [s.hl] ∧
    Ends s t s.flags s.sp s.pc [.write s.hl n] (s.count .ldIndHLImm)) ∧
  (∀ r, defaultCount (.ldIndHLReg r) = 8) ∧ defaultCount .ldIndHLImm = 12

/-! ## The 16-bit loads and the loads of A through memory -/

/-- LD rr,nn and LD SP,HL (R200, R228). -/
def Obligations.LdPairLoads : Prop :=
  (∀ (p : Pair) (nn : Word),
    encode (Row.ldPairImm p nn) = [BitVec.ofNat 8 (0x01 + 16 * pairNumber p), loByte nn, hiByte nn]) ∧
  encode .ldSPHL = [0xF9] ∧
  (∀ (p : Pair) (s : State), fetchInstr (BitVec.ofNat 8 (0x01 + 16 * pairNumber p)) s =
    (Row.ldPairImm p (operandWord s), afterOperands s)) ∧
  (∀ (p : Pair) (nn : Word) (s : State), ∃ t, exec (Row.ldPairImm p nn) s = .next t ∧
    t.pair p = nn ∧ Kept s t (pairRegs p) [] ∧
    Ends s t s.flags (if p = .SP then nn else s.sp) s.pc [] (s.count (.ldPairImm p))) ∧
  (∀ s : State, ∃ t, exec .ldSPHL s = .next t ∧
    Kept s t [] [] ∧ Ends s t s.flags s.hl s.pc [] (s.count .ldSPHL)) ∧
  (∀ p, defaultCount (.ldPairImm p) = 12) ∧ defaultCount .ldSPHL = 8

/-- The effective address of each memory form, and its loads of A (R201, R202, R205, R208, R222, R223, R225,
R227). -/
def Obligations.LoadsOfA : Prop :=
  (encode (Row.loadA .indBC) = [0x0A] ∧ encode (Row.loadA .indDE) = [0x1A] ∧
    (∀ nn, encode (Row.loadA (.indNN nn)) = [0xFA, loByte nn, hiByte nn]) ∧
    encode (Row.loadA .indHLI) = [0x2A] ∧ encode (Row.loadA .indHLD) = [0x3A] ∧
    (∀ n, encode (Row.loadA (.highN n)) = [0xF0, n]) ∧ encode (Row.loadA .highC) = [0xF2]) ∧
  (∀ s : State,
    fetchInstr 0xFA s = (Row.loadA (.indNN (operandWord s)), afterOperands s) ∧
    fetchInstr 0xF0 s = (Row.loadA (.highN (operandByte s)), afterOperand s)) ∧
  (∀ (s : State) (nn : Word) (n : Byte),
    s.formAddr .indBC = s.pair .BC ∧ s.formAddr .indDE = s.pair .DE ∧ s.formAddr (.indNN nn) = nn ∧
    s.formAddr .indHLI = s.hl ∧ s.formAddr .indHLD = s.hl ∧
    s.formAddr (.highN n) = 0xFF00 + n.zeroExtend 16 ∧
    s.formAddr .highC = 0xFF00 + (s.reg .C).zeroExtend 16) ∧
  (∀ (m : AddrForm) (s : State), ∃ t, exec (Row.loadA m) s = .next t ∧
    t.reg .A = s.peek (s.formAddr m) ∧ t.hl = hlAfter m s.hl ∧ Kept s t (.A :: formRegs m) [] ∧
    Ends s t s.flags s.sp s.pc [.read (s.formAddr m) (s.peek (s.formAddr m))]
      (s.count (.loadA m.kind))) ∧
  [AddrKind.indBC, .indDE, .indNN, .indHLI, .indHLD, .highN, .highC].map (fun k => defaultCount (.loadA k)) =
    [8, 8, 16, 8, 8, 12, 8]

/-- The stores of A through the memory forms (R203, R204, R206, R208, R220, R221, R224, R226). -/
def Obligations.StoresOfA : Prop :=
  (encode (Row.storeA .indBC) = [0x02] ∧ encode (Row.storeA .indDE) = [0x12] ∧
    (∀ nn, encode (Row.storeA (.indNN nn)) = [0xEA, loByte nn, hiByte nn]) ∧
    encode (Row.storeA .indHLI) = [0x22] ∧ encode (Row.storeA .indHLD) = [0x32] ∧
    (∀ n, encode (Row.storeA (.highN n)) = [0xE0, n]) ∧ encode (Row.storeA .highC) = [0xE2]) ∧
  (∀ s : State,
    fetchInstr 0xEA s = (Row.storeA (.indNN (operandWord s)), afterOperands s) ∧
    fetchInstr 0xE0 s = (Row.storeA (.highN (operandByte s)), afterOperand s)) ∧
  (∀ (m : AddrForm) (s : State), Memory.wf s.mem = true → ∃ t, exec (Row.storeA m) s = .next t ∧
    Holds s t (s.formAddr m) (s.reg .A) ∧ t.hl = hlAfter m s.hl ∧ Kept s t (formRegs m) [s.formAddr m] ∧
    Ends s t s.flags s.sp s.pc [.write (s.formAddr m) (s.reg .A)] (s.count (.storeA m.kind))) ∧
  (∀ (s : State) (nn : Word) (n : Byte),
    s.formAddr .indBC = s.pair .BC ∧ s.formAddr .indDE = s.pair .DE ∧ s.formAddr (.indNN nn) = nn ∧
    s.formAddr .indHLI = s.hl ∧ s.formAddr .indHLD = s.hl ∧
    s.formAddr (.highN n) = 0xFF00 + n.zeroExtend 16 ∧
    s.formAddr .highC = 0xFF00 + (s.reg .C).zeroExtend 16) ∧
  [AddrKind.indBC, .indDE, .indNN, .indHLI, .indHLD, .highN, .highC].map (fun k => defaultCount (.storeA k)) =
    [8, 8, 16, 8, 8, 12, 8]

/-- LD (nn),SP (R207): the low byte at nn first, then the high byte at nn + 1. -/
def Obligations.LdIndNNSPStoresBothBytes : Prop :=
  (∀ nn : Word, encode (.ldIndNNSP nn) = [0x08, loByte nn, hiByte nn]) ∧
  (∀ s : State, fetchInstr 0x08 s = (.ldIndNNSP (operandWord s), afterOperands s)) ∧
  (∀ (nn : Word) (s : State), Memory.wf s.mem = true → ∃ t, exec (.ldIndNNSP nn) s = .next t ∧
    HoldsBoth s t nn (loByte s.sp) (nn + 1) (hiByte s.sp) ∧ Kept s t [] [nn, nn + 1] ∧
    Ends s t s.flags s.sp s.pc [.write nn (loByte s.sp), .write (nn + 1) (hiByte s.sp)]
      (s.count .ldIndNNSP)) ∧
  defaultCount .ldIndNNSP = 20

/-! ## Increment and decrement -/

/-- INC and DEC of a register and of the byte at HL (R143, R144, R240 to R243): C is not touched. -/
def Obligations.IncDecKeepCarry : Prop :=
  (∀ x : Operand, encode (Row.inc x) = [BitVec.ofNat 8 (0x04 + 8 * operandNumber x)] ∧
    encode (Row.dec x) = [BitVec.ofNat 8 (0x05 + 8 * operandNumber x)]) ∧
  (∀ (x : Operand) (s : State), Memory.wf s.mem = true →
    let a := operandValue s x
    ∃ t, exec (Row.inc x) s = .next t ∧ OperandHolds s t x (a + 1) ∧
      Kept s t (operandRegs x) (operandAddrs s x) ∧
      Ends s t { z := a + 1 == 0, n := false, h := a &&& 15 == 15, c := s.flags.c } s.sp s.pc
        (operandReads s x ++ operandWrites s (a + 1) x) (s.count (.inc x))) ∧
  (∀ (x : Operand) (s : State), Memory.wf s.mem = true →
    let a := operandValue s x
    ∃ t, exec (Row.dec x) s = .next t ∧ OperandHolds s t x (a - 1) ∧
      Kept s t (operandRegs x) (operandAddrs s x) ∧
      Ends s t { z := a - 1 == 0, n := true, h := a &&& 15 == 0, c := s.flags.c } s.sp s.pc
        (operandReads s x ++ operandWrites s (a - 1) x) (s.count (.dec x))) ∧
  (∀ r, defaultCount (.inc (.reg r)) = 4 ∧ defaultCount (.dec (.reg r)) = 4) ∧
  defaultCount (.inc .indHL) = 12 ∧ defaultCount (.dec .indHL) = 12

/-- INC rr and DEC rr (R146, R244, R245): no flag is touched. -/
def Obligations.IncDecPairTouchNoFlag : Prop :=
  (∀ p : Pair, encode (Row.incPair p) = [BitVec.ofNat 8 (0x03 + 16 * pairNumber p)] ∧
    encode (Row.decPair p) = [BitVec.ofNat 8 (0x0B + 16 * pairNumber p)]) ∧
  (∀ (p : Pair) (s : State), ∃ t, exec (Row.incPair p) s = .next t ∧
    t.pair p = s.pair p + 1 ∧ Kept s t (pairRegs p) [] ∧
    Ends s t s.flags (if p = .SP then s.sp + 1 else s.sp) s.pc [] (s.count (.incPair p))) ∧
  (∀ (p : Pair) (s : State), ∃ t, exec (Row.decPair p) s = .next t ∧
    t.pair p = s.pair p - 1 ∧ Kept s t (pairRegs p) [] ∧
    Ends s t s.flags (if p = .SP then s.sp - 1 else s.sp) s.pc [] (s.count (.decPair p))) ∧
  (∀ p, defaultCount (.incPair p) = 8 ∧ defaultCount (.decPair p) = 8)

/-! ## 8-bit accumulator arithmetic and logic -/

/-- ADD, ADC, SUB, SBC, AND, XOR, OR, CP of A with a register (R260, R263, R266, R269, R272, R275, R278,
R281): all four flags are written; CP writes no register. -/
def Obligations.AluRegResults : Prop :=
  (∀ (op : AluOp) (r : Reg),
    encode (Row.alu op (.reg r)) = [BitVec.ofNat 8 (0x80 + 8 * aluNumber op + regNumber r)]) ∧
  (∀ (op : AluOp) (r : Reg) (s : State),
    let a := s.reg .A
    let b := s.reg r
    let result : Byte × Flags :=
      match op with
      | .add => add8 a b false
      | .adc => add8 a b s.flags.c
      | .sub => sub8 a b false
      | .sbc => sub8 a b s.flags.c
      | .and => and8 a b
      | .xor => xor8 a b
      | .or => or8 a b
      | .cp => (a, cp8 a b)
    ∃ t, exec (Row.alu op (.reg r)) s = .next t ∧ t.reg .A = result.1 ∧ Kept s t [.A] [] ∧
      Ends s t result.2 s.sp s.pc [] (s.count (.alu op (.reg r)))) ∧
  (∀ op r, defaultCount (.alu op (.reg r)) = 4)

/-- The same with the byte at HL (R261, R264, R267, R270, R273, R276, R279, R282): memory is read once and not
written. -/
def Obligations.AluIndHLResults : Prop :=
  (∀ op : AluOp, encode (Row.alu op .indHL) = [BitVec.ofNat 8 (0x86 + 8 * aluNumber op)]) ∧
  (∀ (op : AluOp) (s : State),
    let a := s.reg .A
    let b := s.peek s.hl
    let result : Byte × Flags :=
      match op with
      | .add => add8 a b false
      | .adc => add8 a b s.flags.c
      | .sub => sub8 a b false
      | .sbc => sub8 a b s.flags.c
      | .and => and8 a b
      | .xor => xor8 a b
      | .or => or8 a b
      | .cp => (a, cp8 a b)
    ∃ t, exec (Row.alu op .indHL) s = .next t ∧ t.reg .A = result.1 ∧ Kept s t [.A] [] ∧
      Ends s t result.2 s.sp s.pc [.read s.hl b] (s.count (.alu op .indHL))) ∧
  (∀ op, defaultCount (.alu op .indHL) = 8)

/-- The same with an immediate (R262, R265, R268, R271, R274, R277, R280, R283). -/
def Obligations.AluImmResults : Prop :=
  (∀ (op : AluOp) (n : Byte), encode (Row.aluImm op n) = [BitVec.ofNat 8 (0xC6 + 8 * aluNumber op), n]) ∧
  (∀ (op : AluOp) (s : State), fetchInstr (BitVec.ofNat 8 (0xC6 + 8 * aluNumber op)) s =
    (Row.aluImm op (operandByte s), afterOperand s)) ∧
  (∀ (op : AluOp) (n : Byte) (s : State),
    let a := s.reg .A
    let result : Byte × Flags :=
      match op with
      | .add => add8 a n false
      | .adc => add8 a n s.flags.c
      | .sub => sub8 a n false
      | .sbc => sub8 a n s.flags.c
      | .and => and8 a n
      | .xor => xor8 a n
      | .or => or8 a n
      | .cp => (a, cp8 a n)
    ∃ t, exec (Row.aluImm op n) s = .next t ∧ t.reg .A = result.1 ∧ Kept s t [.A] [] ∧
      Ends s t result.2 s.sp s.pc [] (s.count (.aluImm op))) ∧
  (∀ op, defaultCount (.aluImm op) = 8)

/-! ## 16-bit arithmetic -/

/-- ADD HL,rr (R145, R300): Z is not touched. -/
def Obligations.AddHLKeepsZero : Prop :=
  (∀ p : Pair, encode (Row.addHL p) = [BitVec.ofNat 8 (0x09 + 16 * pairNumber p)]) ∧
  (∀ (p : Pair) (s : State),
    let a := s.hl
    let b := s.pair p
    ∃ t, exec (Row.addHL p) s = .next t ∧ t.hl = a + b ∧ Kept s t [.H, .L] [] ∧
      Ends s t
        { z := s.flags.z, n := false,
          h := decide ((a &&& 0x0FFF).toNat + (b &&& 0x0FFF).toNat > 0x0FFF),
          c := decide (a.toNat + b.toNat > 0xFFFF) }
        s.sp s.pc [] (s.count (.addHL p))) ∧
  (∀ p, defaultCount (.addHL p) = 8)

/-- ADD SP,e and LD HL,SP+e, with both flag rules of SPDISP_FLAGS (R154, R301, R302, R303). -/
def Obligations.SpDisplacementResults : Prop :=
  (∀ e : Byte, encode (.addSPe e) = [0xE8, e] ∧ encode (.ldHLSPe e) = [0xF8, e]) ∧
  (∀ s : State, fetchInstr 0xE8 s = (.addSPe (operandByte s), afterOperand s) ∧
    fetchInstr 0xF8 s = (.ldHLSPe (operandByte s), afterOperand s)) ∧
  (∀ (e : Byte) (s : State),
    let d : Word := e.signExtend 16
    let flags : Flags :=
      match s.params.spDisp with
      | .canonical =>
        { z := false, n := false,
          h := decide ((s.sp &&& 15).toNat + (e &&& 15).toNat > 15),
          c := decide ((s.sp &&& 255).toNat + e.toNat > 255) }
      | .docLiteral =>
        { z := s.flags.z, n := false,
          h := decide ((s.sp &&& 0x0FFF).toNat + (d &&& 0x0FFF).toNat > 0x0FFF),
          c := decide (s.sp.toNat + d.toNat > 0xFFFF) }
    (∃ t, exec (.addSPe e) s = .next t ∧ Kept s t [] [] ∧
      Ends s t flags (s.sp + d) s.pc [] (s.count .addSP)) ∧
    (∃ t, exec (.ldHLSPe e) s = .next t ∧ t.hl = s.sp + d ∧ Kept s t [.H, .L] [] ∧
      Ends s t flags s.sp s.pc [] (s.count .ldHLSP))) ∧
  defaultCount .addSP = 16 ∧ defaultCount .ldHLSP = 12

/-! ## The stack -/

/-- PUSH (R310, R312, R314): the high byte at SP - 1 first, then the low byte at SP - 2. -/
def Obligations.PushWritesHighThenLow : Prop :=
  (∀ q : StackPair, encode (Row.push q) = [BitVec.ofNat 8 (0xC5 + 16 * stackPairNumber q)]) ∧
  (∀ s : State, s.stackPair .BC = s.pair .BC ∧ s.stackPair .DE = s.pair .DE ∧ s.stackPair .HL = s.hl ∧
    (s.stackPair .AF).toNat = (s.reg .A).toNat * 256 +
      (bit s.flags.z * 128 + bit s.flags.n * 64 + bit s.flags.h * 32 + bit s.flags.c * 16)) ∧
  (∀ (q : StackPair) (s : State), Memory.wf s.mem = true →
    let v := s.stackPair q
    ∃ t, exec (Row.push q) s = .next t ∧
      HoldsBoth s t (s.sp - 1) (hiByte v) (s.sp - 2) (loByte v) ∧ Kept s t [] [s.sp - 1, s.sp - 2] ∧
      Ends s t s.flags (s.sp - 2) s.pc [.write (s.sp - 1) (hiByte v), .write (s.sp - 2) (loByte v)]
        (s.count (.push q))) ∧
  (∀ q, defaultCount (.push q) = 16)

/-- POP (R311, R313, R315): POP AF takes the flags from bits 7 to 4 of the low byte and drops bits 3 to 0. -/
def Obligations.PopReadsLowThenHigh : Prop :=
  (∀ q : StackPair, encode (Row.pop q) = [BitVec.ofNat 8 (0xC1 + 16 * stackPairNumber q)]) ∧
  (∀ (q : StackPair) (s : State),
    let lo := s.peek s.sp
    let hi := s.peekAfter s.sp (s.sp + 1)
    ∃ t, exec (Row.pop q) s = .next t ∧
      (q = .AF → t.reg .A = hi) ∧ (q ≠ .AF → t.stackPair q = word hi lo) ∧
      Kept s t (stackPairRegs q) [] ∧
      Ends s t
        (if q = .AF then
          { z := lo.getLsbD 7, n := lo.getLsbD 6, h := lo.getLsbD 5, c := lo.getLsbD 4 }
        else s.flags)
        (s.sp + 2) s.pc [.read s.sp lo, .read (s.sp + 1) hi] (s.count (.pop q))) ∧
  (∀ q, defaultCount (.pop q) = 12)

/-! ## Control transfer -/

/-- JP nn, JP cc,nn, JP HL, JR e, JR cc,e (R330 to R335); pc is past the operand bytes before the test. -/
def Obligations.JumpsSetPc : Prop :=
  ((∀ nn, encode (.jpNn nn) = [0xC3, loByte nn, hiByte nn]) ∧
    (∀ cc nn, encode (Row.jpCond cc nn) = [BitVec.ofNat 8 (0xC2 + 8 * condNumber cc), loByte nn, hiByte nn]) ∧
    encode .jpHL = [0xE9] ∧ (∀ e, encode (.jrE e) = [0x18, e]) ∧
    (∀ cc e, encode (Row.jrCond cc e) = [BitVec.ofNat 8 (0x20 + 8 * condNumber cc), e])) ∧
  (∀ s : State,
    fetchInstr 0xC3 s = (.jpNn (operandWord s), afterOperands s) ∧
    (∀ cc, fetchInstr (BitVec.ofNat 8 (0xC2 + 8 * condNumber cc)) s =
      (Row.jpCond cc (operandWord s), afterOperands s)) ∧
    fetchInstr 0x18 s = (.jrE (operandByte s), afterOperand s) ∧
    (∀ cc, fetchInstr (BitVec.ofNat 8 (0x20 + 8 * condNumber cc)) s =
      (Row.jrCond cc (operandByte s), afterOperand s))) ∧
  (∀ f : Flags, f.holds .NZ = !f.z ∧ f.holds .Z = f.z ∧ f.holds .NC = !f.c ∧ f.holds .C = f.c) ∧
  (∀ (nn : Word) (s : State),
    exec (.jpNn nn) s = .next { s with pc := nn, cycles := s.count .jp }) ∧
  (∀ (cc : Cond) (nn : Word) (s : State), exec (Row.jpCond cc nn) s = .next (if s.flags.holds cc = true
    then { s with pc := nn, cycles := s.count (.jpCond cc true) }
    else { s with cycles := s.count (.jpCond cc false) })) ∧
  (∀ s : State, exec .jpHL s = .next { s with pc := s.hl, cycles := s.count .jpHL }) ∧
  (∀ (e : Byte) (s : State),
    exec (.jrE e) s = .next { s with pc := s.pc + e.signExtend 16, cycles := s.count .jr }) ∧
  (∀ (cc : Cond) (e : Byte) (s : State), exec (Row.jrCond cc e) s = .next (if s.flags.holds cc = true
    then { s with pc := s.pc + e.signExtend 16, cycles := s.count (.jrCond cc true) }
    else { s with cycles := s.count (.jrCond cc false) })) ∧
  (defaultCount .jp = 16 ∧ defaultCount .jpHL = 4 ∧ defaultCount .jr = 12 ∧
    (∀ cc, defaultCount (.jpCond cc true) = 16 ∧ defaultCount (.jpCond cc false) = 12 ∧
      defaultCount (.jrCond cc true) = 12 ∧ defaultCount (.jrCond cc false) = 8))

/-- CALL nn, CALL cc,nn, RST t (R336, R337, R341): pc, past the operand bytes, is pushed. -/
def Obligations.CallsPushReturnAddress : Prop :=
  ((∀ nn, encode (.callNn nn) = [0xCD, loByte nn, hiByte nn]) ∧
    (∀ cc nn, encode (Row.callCond cc nn) =
      [BitVec.ofNat 8 (0xC4 + 8 * condNumber cc), loByte nn, hiByte nn]) ∧
    (∀ t, encode (Row.rst t) = [BitVec.ofNat 8 (0xC7 + (rstAddr t).toNat)]) ∧
    [RstTarget.t00, .t08, .t10, .t18, .t20, .t28, .t30, .t38].map rstAddr =
      [0x00, 0x08, 0x10, 0x18, 0x20, 0x28, 0x30, 0x38]) ∧
  (∀ s : State,
    fetchInstr 0xCD s = (.callNn (operandWord s), afterOperands s) ∧
    (∀ cc, fetchInstr (BitVec.ofNat 8 (0xC4 + 8 * condNumber cc)) s =
      (Row.callCond cc (operandWord s), afterOperands s))) ∧
  (∀ (s : State), Memory.wf s.mem = true →
    let Called (t : State) (target : Word) (cycles : Nat) : Prop :=
      HoldsBoth s t (s.sp - 1) (hiByte s.pc) (s.sp - 2) (loByte s.pc) ∧ Kept s t [] [s.sp - 1, s.sp - 2] ∧
      Ends s t s.flags (s.sp - 2) target
        [.write (s.sp - 1) (hiByte s.pc), .write (s.sp - 2) (loByte s.pc)] cycles
    (∀ nn, ∃ t, exec (.callNn nn) s = .next t ∧ Called t nn (s.count .call)) ∧
    (∀ cc nn, s.flags.holds cc = true →
      ∃ t, exec (Row.callCond cc nn) s = .next t ∧ Called t nn (s.count (.callCond cc true))) ∧
    (∀ cc nn, s.flags.holds cc = false →
      exec (Row.callCond cc nn) s = .next { s with cycles := s.count (.callCond cc false) }) ∧
    (∀ r, ∃ t, exec (Row.rst r) s = .next t ∧ Called t (rstAddr r) (s.count (.rst r)))) ∧
  (defaultCount .call = 24 ∧ (∀ r, defaultCount (.rst r) = 16) ∧
    (∀ cc, defaultCount (.callCond cc true) = 24 ∧ defaultCount (.callCond cc false) = 12))

/-- RET and RET cc (R338, R339). -/
def Obligations.ReturnsPopPc : Prop :=
  encode .ret = [0xC9] ∧
  (∀ cc, encode (Row.retCond cc) = [BitVec.ofNat 8 (0xC0 + 8 * condNumber cc)]) ∧
  (∀ s : State,
    let returned (cycles : Nat) : State :=
      { s with
        pc := wordAt s s.sp, sp := s.sp + 2, cycles := cycles,
        device := deviceAfter s.params s.device (wordReads s s.sp), bus := s.bus ++ wordReads s s.sp }
    exec .ret s = .next (returned (s.count .ret)) ∧
    (∀ cc, exec (Row.retCond cc) s = .next (if s.flags.holds cc = true
      then returned (s.count (.retCond cc true))
      else { s with cycles := s.count (.retCond cc false) }))) ∧
  (defaultCount .ret = 16 ∧
    (∀ cc, defaultCount (.retCond cc true) = 20 ∧ defaultCount (.retCond cc false) = 8))

/-! ## Accumulator rotates, decimal adjust, flag operations -/

/-- RLCA, RRCA, RLA, RRA (R360 to R363): Z is forced to 0. -/
def Obligations.AccumulatorRotatesClearZero : Prop :=
  [RotOp.rlc, .rrc, .rl, .rr].map (fun op => encode (Row.accRot op)) = [[0x07], [0x0F], [0x17], [0x1F]] ∧
  (∀ (op : RotOp) (s : State),
    let a := s.reg .A
    let result : Byte × Bool :=
      match op with
      | .rlc => (a.rotateLeft 1, a.getLsbD 7)
      | .rrc => (a.rotateRight 1, a.getLsbD 0)
      | .rl => (a <<< 1 ||| BitVec.ofNat 8 (bit s.flags.c), a.getLsbD 7)
      | .rr => (a >>> 1 ||| BitVec.ofNat 8 (128 * bit s.flags.c), a.getLsbD 0)
    ∃ t, exec (Row.accRot op) s = .next t ∧ t.reg .A = result.1 ∧ Kept s t [.A] [] ∧
      Ends s t { z := false, n := false, h := false, c := result.2 } s.sp s.pc []
        (s.count (.accRot op))) ∧
  (∀ op, defaultCount (.accRot op) = 4)

/-- DAA, CPL, SCF, CCF (R157, R364 to R367). -/
def Obligations.DaaCplScfCcfResults : Prop :=
  (encode .daa = [0x27] ∧ encode .cpl = [0x2F] ∧ encode .scf = [0x37] ∧ encode .ccf = [0x3F]) ∧
  (∀ s : State,
    let a := s.reg .A
    let f := s.flags
    ∃ t, exec .daa s = .next t ∧ Kept s t [.A] [] ∧
      (f.n = false →
        (t.reg .A).toNat = (a.toNat + (if f.h = true ∨ a.toNat % 16 > 9 then 0x06 else 0) +
          (if f.c = true ∨ a.toNat > 0x99 then 0x60 else 0)) % 256 ∧
        Ends s t { z := t.reg .A == 0, n := false, h := false, c := f.c || decide (a.toNat > 0x99) }
          s.sp s.pc [] (s.count .daa)) ∧
      (f.n = true →
        t.reg .A = a - (if f.h = true then 0x06 else 0) - (if f.c = true then 0x60 else 0) ∧
        Ends s t { z := t.reg .A == 0, n := true, h := false, c := f.c } s.sp s.pc []
          (s.count .daa))) ∧
  (∀ s : State, ∃ t, exec .cpl s = .next t ∧ t.reg .A = ~~~ s.reg .A ∧ Kept s t [.A] [] ∧
    Ends s t { s.flags with n := true, h := true } s.sp s.pc [] (s.count .cpl)) ∧
  (∀ s : State, exec .scf s = .next
    { s with flags := { s.flags with n := false, h := false, c := true }, cycles := s.count .scf }) ∧
  (∀ s : State, exec .ccf s = .next
    { s with flags := { s.flags with n := false, h := false, c := !s.flags.c },
             cycles := s.count .ccf }) ∧
  defaultCount .daa = 4 ∧ defaultCount .cpl = 4 ∧ defaultCount .scf = 4 ∧ defaultCount .ccf = 4

/-! ## Processor control -/

/-- HALT (R368, R369): in the HALT-bug situation refused or taken as HALT_BUG says; otherwise the core halts.
Its reads of IE and IF have no side effect (R441). -/
def Obligations.HaltHaltsOrSetsBug : Prop :=
  encode .halt = [0x76] ∧
  (∀ s : State, s.params.irq = .none →
    exec .halt s = .next { s with halted := true, cycles := s.count .halt }) ∧
  (∀ s : State, s.params.irq = .canonical →
    let reads : List BusAccess := [.read 0xFFFF (s.peek 0xFFFF), .read 0xFF0F (s.peek 0xFF0F)]
    (s.ime = true ∨ s.eiDelay = true ∨ pendingRequests s = 0 →
      exec .halt s =
        .next { s with halted := true, bus := s.bus ++ reads, cycles := s.count .halt }) ∧
    (s.ime = false → s.eiDelay = false → pendingRequests s ≠ 0 → s.params.haltBug = .canonical →
      exec .halt s =
        .next { s with haltBug := true, bus := s.bus ++ reads, cycles := s.count .halt }) ∧
    (s.ime = false → s.eiDelay = false → pendingRequests s ≠ 0 → s.params.haltBug = .refuse →
      exec .halt s = .refused (.haltBugNotModelled 0x76))) ∧
  defaultCount .halt = 4

/-- STOP (R370): its pad byte is fetched and ignored; refused or taken as STOP_MODE says; a stopped core
fetches nothing and changes nothing. -/
def Obligations.StopStopsTheCore : Prop :=
  (∀ pad : Byte, encode (.stop pad) = [0x10, pad]) ∧
  (∀ s : State, fetchInstr 0x10 s = (.stop (operandByte s), afterOperand s)) ∧
  (∀ (pad : Byte) (s : State), s.params.stop = .stopped →
    exec (.stop pad) s = .next { s with stopped := true, cycles := s.count .stop }) ∧
  (∀ (pad : Byte) (s : State), s.params.stop = .refuse →
    exec (.stop pad) s = .refused (.stopNotModelled 0x10)) ∧
  (∀ s : State, s.params.profile = .full → s.stopped = true →
    step s = .next { s with cycles := s.count .idleStopped, bus := [] }) ∧
  defaultCount .stop = 4

/-- DI, EI, RETI (R340, R371, R372): DI and RETI act at once, EI leaves IME as it is. -/
def Obligations.DiEiRetiWriteIme : Prop :=
  (encode .di = [0xF3] ∧ encode .ei = [0xFB] ∧ encode .reti = [0xD9]) ∧
  (∀ s : State, exec .di s =
    .next { s with ime := false, eiDelay := false, cycles := s.count .di }) ∧
  (∀ s : State, exec .ei s = .next { s with eiDelay := true, cycles := s.count .ei }) ∧
  (∀ s : State, exec .reti s = .next
    { s with
      pc := wordAt s s.sp, sp := s.sp + 2, ime := true, eiDelay := false,
      device := deviceAfter s.params s.device (wordReads s s.sp), bus := s.bus ++ wordReads s s.sp,
      cycles := s.count .reti }) ∧
  defaultCount .di = 4 ∧ defaultCount .ei = 4 ∧ defaultCount .reti = 16

/-- UNDEFINED (R374, R422), in both profiles: the step ends in the fault UndefinedOpcode with the opcode byte,
the address it was fetched from and the state before the step except for pc; nothing is pushed or written, no
vector is taken. The latch and the two outputs of the step are the model's own fields and left out of the
comparison (assumptions 8, 9, 10). `Mem` behind the port is as the opcode fetch's read left it, where R422 says
that nothing but pc has changed: the model's choice (assumption 11). A step that wakes a halted core or finds
halt_bug set is left to `WakeFromHaltRunsNext` and `HaltBugFetchHoldsPc`. -/
def Obligations.UndefinedOpcodeFaults : Prop :=
  (∀ (op : Byte) (s : State), exec (.undefined op) s = .fault (.undefinedOpcode op s.fetchedAt s)) ∧
  (∀ op ∈ [(0xD3 : Byte), 0xDB, 0xDD, 0xE3, 0xE4, 0xEB, 0xEC, 0xED, 0xF4, 0xFC, 0xFD],
    encode (.undefined op) = [op] ∧
    ∀ s : State, s.peek s.pc = op → RunsNext s → s.haltBug = false →
      ∃ t, step s = .fault (.undefinedOpcode op s.pc t) ∧
        { t with fetchedAt := s.fetchedAt, cycles := s.cycles, bus := s.bus } =
          { s with pc := s.pc + 1, device := readDevice s.params s.device s.pc } ∧
        t.bus = checkReads s ++ [.read s.pc op])

/-! ## The CB sub-table -/

/-- RLC, RRC, RL, RR, SLA, SRA, SWAP, SRL of a register (R391, R393, R395, R397, R399, R401, R403, R405). -/
def Obligations.CbShiftRegResults : Prop :=
  (∀ (op : ShiftOp) (r : Reg),
    encode (Row.shift op (.reg r)) = [0xCB, BitVec.ofNat 8 (8 * shiftNumber op + regNumber r)]) ∧
  (∀ (op : ShiftOp) (r : Reg) (s : State),
    let result := shiftValue op (s.reg r) s.flags.c
    ∃ t, exec (Row.shift op (.reg r)) s = .next t ∧ t.reg r = result.1 ∧ Kept s t [r] [] ∧
      Ends s t { z := result.1 == 0, n := false, h := false, c := result.2 } s.sp s.pc []
        (s.count (.shift op (.reg r)))) ∧
  (∀ op r, defaultCount (.shift op (.reg r)) = 8)

/-- The same of the byte at HL (R392, R394, R396, R398, R400, R402, R404, R406): one read, then one write of
the same address; the flags are those of the result also where the region keeps no write. -/
def Obligations.CbShiftIndHLResults : Prop :=
  (∀ op : ShiftOp, encode (Row.shift op .indHL) = [0xCB, BitVec.ofNat 8 (8 * shiftNumber op + 6)]) ∧
  (∀ (op : ShiftOp) (s : State), Memory.wf s.mem = true →
    let a := s.peek s.hl
    let result := shiftValue op a s.flags.c
    ∃ t, exec (Row.shift op .indHL) s = .next t ∧ Holds s t s.hl result.1 ∧ Kept s t [] [s.hl] ∧
      Ends s t { z := result.1 == 0, n := false, h := false, c := result.2 } s.sp s.pc
        [.read s.hl a, .write s.hl result.1] (s.count (.shift op .indHL))) ∧
  (∀ op, defaultCount (.shift op .indHL) = 16)

/-- BIT, RES, SET of a register and of the byte at HL (R407 to R412): BIT writes flags only, RES and SET no
flag. -/
def Obligations.CbBitsResults : Prop :=
  (∀ (b : BitNo) (x : Operand),
    encode (Row.bit b x) = [0xCB, BitVec.ofNat 8 (0x40 + 8 * bitIndex b + operandNumber x)] ∧
    encode (Row.res b x) = [0xCB, BitVec.ofNat 8 (0x80 + 8 * bitIndex b + operandNumber x)] ∧
    encode (Row.set b x) = [0xCB, BitVec.ofNat 8 (0xC0 + 8 * bitIndex b + operandNumber x)]) ∧
  (∀ (b : BitNo) (x : Operand) (s : State), ∃ t, exec (Row.bit b x) s = .next t ∧
    Kept s t [] [] ∧
    Ends s t { z := !(operandValue s x).getLsbD (bitIndex b), n := false, h := true, c := s.flags.c } s.sp s.pc
      (operandReads s x) (s.count (.bit b x))) ∧
  (∀ (b : BitNo) (x : Operand) (s : State), Memory.wf s.mem = true →
    let v := operandValue s x &&& ~~~ (1#8 <<< bitIndex b)
    ∃ t, exec (Row.res b x) s = .next t ∧ OperandHolds s t x v ∧
      Kept s t (operandRegs x) (operandAddrs s x) ∧
      Ends s t s.flags s.sp s.pc (operandReads s x ++ operandWrites s v x) (s.count (.res b x))) ∧
  (∀ (b : BitNo) (x : Operand) (s : State), Memory.wf s.mem = true →
    let v := operandValue s x ||| (1#8 <<< bitIndex b)
    ∃ t, exec (Row.set b x) s = .next t ∧ OperandHolds s t x v ∧
      Kept s t (operandRegs x) (operandAddrs s x) ∧
      Ends s t s.flags s.sp s.pc (operandReads s x ++ operandWrites s v x) (s.count (.set b x))) ∧
  (∀ b r, defaultCount (.bit b (.reg r)) = 8 ∧ defaultCount (.res b (.reg r)) = 8 ∧
    defaultCount (.set b (.reg r)) = 8) ∧
  (∀ b, defaultCount (.bit b .indHL) = 12 ∧ defaultCount (.res b .indHL) = 16 ∧
    defaultCount (.set b .indHL) = 16)

end Obligations
end

