-- ==== Sys2Proof/Laws/State.lean ====
section
/-! SUPPORT. What each field of the state is after each update, one lemma per field, so that no proof unfolds a record update. -/

namespace Sys2Proof.Machine

variable (s : State)

/-! ## Registers -/

@[simp] theorem State.setReg_flags (r : Reg) (v : Byte) : (s.setReg r v).flags = s.flags := by cases r <;> rfl
@[simp] theorem State.setReg_sp (r : Reg) (v : Byte) : (s.setReg r v).sp = s.sp := by cases r <;> rfl
@[simp] theorem State.setReg_pc (r : Reg) (v : Byte) : (s.setReg r v).pc = s.pc := by cases r <;> rfl
@[simp] theorem State.setReg_ime (r : Reg) (v : Byte) : (s.setReg r v).ime = s.ime := by cases r <;> rfl
@[simp] theorem State.setReg_eiDelay (r : Reg) (v : Byte) : (s.setReg r v).eiDelay = s.eiDelay := by cases r <;> rfl
@[simp] theorem State.setReg_halted (r : Reg) (v : Byte) : (s.setReg r v).halted = s.halted := by cases r <;> rfl
@[simp] theorem State.setReg_stopped (r : Reg) (v : Byte) : (s.setReg r v).stopped = s.stopped := by cases r <;> rfl
@[simp] theorem State.setReg_haltBug (r : Reg) (v : Byte) : (s.setReg r v).haltBug = s.haltBug := by cases r <;> rfl
@[simp] theorem State.setReg_mem (r : Reg) (v : Byte) : (s.setReg r v).mem = s.mem := by cases r <;> rfl
@[simp] theorem State.setReg_device (r : Reg) (v : Byte) : (s.setReg r v).device = s.device := by cases r <;> rfl
@[simp] theorem State.setReg_params (r : Reg) (v : Byte) : (s.setReg r v).params = s.params := by cases r <;> rfl
@[simp] theorem State.setReg_fetchedAt (r : Reg) (v : Byte) : (s.setReg r v).fetchedAt = s.fetchedAt := by cases r <;> rfl
@[simp] theorem State.setReg_cycles (r : Reg) (v : Byte) : (s.setReg r v).cycles = s.cycles := by cases r <;> rfl
@[simp] theorem State.setReg_bus (r : Reg) (v : Byte) : (s.setReg r v).bus = s.bus := by cases r <;> rfl

@[simp] theorem State.setPair_flags (p : Pair) (v : Word) : (s.setPair p v).flags = s.flags := by cases p <;> rfl
@[simp] theorem State.setPair_pc (p : Pair) (v : Word) : (s.setPair p v).pc = s.pc := by cases p <;> rfl
@[simp] theorem State.setPair_ime (p : Pair) (v : Word) : (s.setPair p v).ime = s.ime := by cases p <;> rfl
@[simp] theorem State.setPair_eiDelay (p : Pair) (v : Word) : (s.setPair p v).eiDelay = s.eiDelay := by cases p <;> rfl
@[simp] theorem State.setPair_halted (p : Pair) (v : Word) : (s.setPair p v).halted = s.halted := by cases p <;> rfl
@[simp] theorem State.setPair_stopped (p : Pair) (v : Word) : (s.setPair p v).stopped = s.stopped := by cases p <;> rfl
@[simp] theorem State.setPair_haltBug (p : Pair) (v : Word) : (s.setPair p v).haltBug = s.haltBug := by cases p <;> rfl
@[simp] theorem State.setPair_mem (p : Pair) (v : Word) : (s.setPair p v).mem = s.mem := by cases p <;> rfl
@[simp] theorem State.setPair_device (p : Pair) (v : Word) : (s.setPair p v).device = s.device := by cases p <;> rfl
@[simp] theorem State.setPair_params (p : Pair) (v : Word) : (s.setPair p v).params = s.params := by cases p <;> rfl
@[simp] theorem State.setPair_fetchedAt (p : Pair) (v : Word) : (s.setPair p v).fetchedAt = s.fetchedAt := by cases p <;> rfl
@[simp] theorem State.setPair_cycles (p : Pair) (v : Word) : (s.setPair p v).cycles = s.cycles := by cases p <;> rfl
@[simp] theorem State.setPair_bus (p : Pair) (v : Word) : (s.setPair p v).bus = s.bus := by cases p <;> rfl

@[simp] theorem State.setStackPair_sp (q : StackPair) (v : Word) : (s.setStackPair q v).sp = s.sp := by cases q <;> rfl
@[simp] theorem State.setStackPair_pc (q : StackPair) (v : Word) : (s.setStackPair q v).pc = s.pc := by cases q <;> rfl
@[simp] theorem State.setStackPair_ime (q : StackPair) (v : Word) : (s.setStackPair q v).ime = s.ime := by cases q <;> rfl
@[simp] theorem State.setStackPair_eiDelay (q : StackPair) (v : Word) : (s.setStackPair q v).eiDelay = s.eiDelay := by cases q <;> rfl
@[simp] theorem State.setStackPair_halted (q : StackPair) (v : Word) : (s.setStackPair q v).halted = s.halted := by cases q <;> rfl
@[simp] theorem State.setStackPair_stopped (q : StackPair) (v : Word) : (s.setStackPair q v).stopped = s.stopped := by cases q <;> rfl
@[simp] theorem State.setStackPair_haltBug (q : StackPair) (v : Word) : (s.setStackPair q v).haltBug = s.haltBug := by cases q <;> rfl
@[simp] theorem State.setStackPair_mem (q : StackPair) (v : Word) : (s.setStackPair q v).mem = s.mem := by cases q <;> rfl
@[simp] theorem State.setStackPair_device (q : StackPair) (v : Word) : (s.setStackPair q v).device = s.device := by cases q <;> rfl
@[simp] theorem State.setStackPair_params (q : StackPair) (v : Word) : (s.setStackPair q v).params = s.params := by cases q <;> rfl
@[simp] theorem State.setStackPair_fetchedAt (q : StackPair) (v : Word) : (s.setStackPair q v).fetchedAt = s.fetchedAt := by cases q <;> rfl
@[simp] theorem State.setStackPair_cycles (q : StackPair) (v : Word) : (s.setStackPair q v).cycles = s.cycles := by cases q <;> rfl
@[simp] theorem State.setStackPair_bus (q : StackPair) (v : Word) : (s.setStackPair q v).bus = s.bus := by cases q <;> rfl

/-! ## Flags, pc, the reported count, the start of a step -/

@[simp] theorem State.setFlags_regs (f : Flags) : (s.setFlags f).regs = s.regs := rfl
@[simp] theorem State.setFlags_sp (f : Flags) : (s.setFlags f).sp = s.sp := rfl
@[simp] theorem State.setFlags_pc (f : Flags) : (s.setFlags f).pc = s.pc := rfl
@[simp] theorem State.setFlags_ime (f : Flags) : (s.setFlags f).ime = s.ime := rfl
@[simp] theorem State.setFlags_eiDelay (f : Flags) : (s.setFlags f).eiDelay = s.eiDelay := rfl
@[simp] theorem State.setFlags_halted (f : Flags) : (s.setFlags f).halted = s.halted := rfl
@[simp] theorem State.setFlags_stopped (f : Flags) : (s.setFlags f).stopped = s.stopped := rfl
@[simp] theorem State.setFlags_haltBug (f : Flags) : (s.setFlags f).haltBug = s.haltBug := rfl
@[simp] theorem State.setFlags_mem (f : Flags) : (s.setFlags f).mem = s.mem := rfl
@[simp] theorem State.setFlags_device (f : Flags) : (s.setFlags f).device = s.device := rfl
@[simp] theorem State.setFlags_params (f : Flags) : (s.setFlags f).params = s.params := rfl
@[simp] theorem State.setFlags_fetchedAt (f : Flags) : (s.setFlags f).fetchedAt = s.fetchedAt := rfl
@[simp] theorem State.setFlags_cycles (f : Flags) : (s.setFlags f).cycles = s.cycles := rfl
@[simp] theorem State.setFlags_bus (f : Flags) : (s.setFlags f).bus = s.bus := rfl

@[simp] theorem State.setFlags_flags (f : Flags) : (s.setFlags f).flags = f := rfl

@[simp] theorem State.jump_regs (a : Word) : (s.jump a).regs = s.regs := rfl
@[simp] theorem State.jump_flags (a : Word) : (s.jump a).flags = s.flags := rfl
@[simp] theorem State.jump_sp (a : Word) : (s.jump a).sp = s.sp := rfl
@[simp] theorem State.jump_ime (a : Word) : (s.jump a).ime = s.ime := rfl
@[simp] theorem State.jump_eiDelay (a : Word) : (s.jump a).eiDelay = s.eiDelay := rfl
@[simp] theorem State.jump_halted (a : Word) : (s.jump a).halted = s.halted := rfl
@[simp] theorem State.jump_stopped (a : Word) : (s.jump a).stopped = s.stopped := rfl
@[simp] theorem State.jump_haltBug (a : Word) : (s.jump a).haltBug = s.haltBug := rfl
@[simp] theorem State.jump_mem (a : Word) : (s.jump a).mem = s.mem := rfl
@[simp] theorem State.jump_device (a : Word) : (s.jump a).device = s.device := rfl
@[simp] theorem State.jump_params (a : Word) : (s.jump a).params = s.params := rfl
@[simp] theorem State.jump_fetchedAt (a : Word) : (s.jump a).fetchedAt = s.fetchedAt := rfl
@[simp] theorem State.jump_cycles (a : Word) : (s.jump a).cycles = s.cycles := rfl
@[simp] theorem State.jump_bus (a : Word) : (s.jump a).bus = s.bus := rfl

@[simp] theorem State.jump_pc (a : Word) : (s.jump a).pc = a := rfl

@[simp] theorem State.report_regs (n : Nat) : (s.report n).regs = s.regs := rfl
@[simp] theorem State.report_flags (n : Nat) : (s.report n).flags = s.flags := rfl
@[simp] theorem State.report_sp (n : Nat) : (s.report n).sp = s.sp := rfl
@[simp] theorem State.report_pc (n : Nat) : (s.report n).pc = s.pc := rfl
@[simp] theorem State.report_ime (n : Nat) : (s.report n).ime = s.ime := rfl
@[simp] theorem State.report_eiDelay (n : Nat) : (s.report n).eiDelay = s.eiDelay := rfl
@[simp] theorem State.report_halted (n : Nat) : (s.report n).halted = s.halted := rfl
@[simp] theorem State.report_stopped (n : Nat) : (s.report n).stopped = s.stopped := rfl
@[simp] theorem State.report_haltBug (n : Nat) : (s.report n).haltBug = s.haltBug := rfl
@[simp] theorem State.report_mem (n : Nat) : (s.report n).mem = s.mem := rfl
@[simp] theorem State.report_device (n : Nat) : (s.report n).device = s.device := rfl
@[simp] theorem State.report_params (n : Nat) : (s.report n).params = s.params := rfl
@[simp] theorem State.report_fetchedAt (n : Nat) : (s.report n).fetchedAt = s.fetchedAt := rfl
@[simp] theorem State.report_bus (n : Nat) : (s.report n).bus = s.bus := rfl

@[simp] theorem State.report_cycles (n : Nat) : (s.report n).cycles = n := rfl

@[simp] theorem State.beginStep_regs : (s.beginStep).regs = s.regs := rfl
@[simp] theorem State.beginStep_flags : (s.beginStep).flags = s.flags := rfl
@[simp] theorem State.beginStep_sp : (s.beginStep).sp = s.sp := rfl
@[simp] theorem State.beginStep_pc : (s.beginStep).pc = s.pc := rfl
@[simp] theorem State.beginStep_ime : (s.beginStep).ime = s.ime := rfl
@[simp] theorem State.beginStep_eiDelay : (s.beginStep).eiDelay = s.eiDelay := rfl
@[simp] theorem State.beginStep_halted : (s.beginStep).halted = s.halted := rfl
@[simp] theorem State.beginStep_stopped : (s.beginStep).stopped = s.stopped := rfl
@[simp] theorem State.beginStep_haltBug : (s.beginStep).haltBug = s.haltBug := rfl
@[simp] theorem State.beginStep_mem : (s.beginStep).mem = s.mem := rfl
@[simp] theorem State.beginStep_device : (s.beginStep).device = s.device := rfl
@[simp] theorem State.beginStep_params : (s.beginStep).params = s.params := rfl
@[simp] theorem State.beginStep_fetchedAt : (s.beginStep).fetchedAt = s.fetchedAt := rfl

@[simp] theorem State.beginStep_cycles : s.beginStep.cycles = 0 := rfl
@[simp] theorem State.beginStep_bus : s.beginStep.bus = [] := rfl

/-! ## The memory port -/

@[simp] theorem State.busRead_val (a : Word) : (s.busRead a).1 = s.peek a := rfl
@[simp] theorem State.afterRead_regs (a : Word) : (s.afterRead a).regs = s.regs := rfl
@[simp] theorem State.afterRead_flags (a : Word) : (s.afterRead a).flags = s.flags := rfl
@[simp] theorem State.afterRead_sp (a : Word) : (s.afterRead a).sp = s.sp := rfl
@[simp] theorem State.afterRead_pc (a : Word) : (s.afterRead a).pc = s.pc := rfl
@[simp] theorem State.afterRead_ime (a : Word) : (s.afterRead a).ime = s.ime := rfl
@[simp] theorem State.afterRead_eiDelay (a : Word) : (s.afterRead a).eiDelay = s.eiDelay := rfl
@[simp] theorem State.afterRead_halted (a : Word) : (s.afterRead a).halted = s.halted := rfl
@[simp] theorem State.afterRead_stopped (a : Word) : (s.afterRead a).stopped = s.stopped := rfl
@[simp] theorem State.afterRead_haltBug (a : Word) : (s.afterRead a).haltBug = s.haltBug := rfl
@[simp] theorem State.afterRead_mem (a : Word) : (s.afterRead a).mem = s.mem := rfl
@[simp] theorem State.afterRead_params (a : Word) : (s.afterRead a).params = s.params := rfl
@[simp] theorem State.afterRead_fetchedAt (a : Word) : (s.afterRead a).fetchedAt = s.fetchedAt := rfl
@[simp] theorem State.afterRead_cycles (a : Word) : (s.afterRead a).cycles = s.cycles := rfl
@[simp] theorem State.afterRead_bus (a : Word) : (s.afterRead a).bus = s.bus := rfl

@[simp] theorem State.afterRead_device (a : Word) : (s.afterRead a).device = readDevice s.params s.device a := rfl

@[simp] theorem State.busRead_2_regs (a : Word) : (s.busRead a).2.regs = s.regs := rfl
@[simp] theorem State.busRead_2_flags (a : Word) : (s.busRead a).2.flags = s.flags := rfl
@[simp] theorem State.busRead_2_sp (a : Word) : (s.busRead a).2.sp = s.sp := rfl
@[simp] theorem State.busRead_2_pc (a : Word) : (s.busRead a).2.pc = s.pc := rfl
@[simp] theorem State.busRead_2_ime (a : Word) : (s.busRead a).2.ime = s.ime := rfl
@[simp] theorem State.busRead_2_eiDelay (a : Word) : (s.busRead a).2.eiDelay = s.eiDelay := rfl
@[simp] theorem State.busRead_2_halted (a : Word) : (s.busRead a).2.halted = s.halted := rfl
@[simp] theorem State.busRead_2_stopped (a : Word) : (s.busRead a).2.stopped = s.stopped := rfl
@[simp] theorem State.busRead_2_haltBug (a : Word) : (s.busRead a).2.haltBug = s.haltBug := rfl
@[simp] theorem State.busRead_2_mem (a : Word) : (s.busRead a).2.mem = s.mem := rfl
@[simp] theorem State.busRead_2_params (a : Word) : (s.busRead a).2.params = s.params := rfl
@[simp] theorem State.busRead_2_fetchedAt (a : Word) : (s.busRead a).2.fetchedAt = s.fetchedAt := rfl
@[simp] theorem State.busRead_2_cycles (a : Word) : (s.busRead a).2.cycles = s.cycles := rfl

@[simp] theorem State.busRead_2_device (a : Word) : (s.busRead a).2.device = readDevice s.params s.device a := rfl
@[simp] theorem State.busRead_2_bus (a : Word) : (s.busRead a).2.bus = s.bus ++ [.read a (s.peek a)] := rfl

@[simp] theorem State.store_regs (a : Word) (v : Byte) : (s.store a v).regs = s.regs := rfl
@[simp] theorem State.store_flags (a : Word) (v : Byte) : (s.store a v).flags = s.flags := rfl
@[simp] theorem State.store_sp (a : Word) (v : Byte) : (s.store a v).sp = s.sp := rfl
@[simp] theorem State.store_pc (a : Word) (v : Byte) : (s.store a v).pc = s.pc := rfl
@[simp] theorem State.store_ime (a : Word) (v : Byte) : (s.store a v).ime = s.ime := rfl
@[simp] theorem State.store_eiDelay (a : Word) (v : Byte) : (s.store a v).eiDelay = s.eiDelay := rfl
@[simp] theorem State.store_halted (a : Word) (v : Byte) : (s.store a v).halted = s.halted := rfl
@[simp] theorem State.store_stopped (a : Word) (v : Byte) : (s.store a v).stopped = s.stopped := rfl
@[simp] theorem State.store_haltBug (a : Word) (v : Byte) : (s.store a v).haltBug = s.haltBug := rfl
@[simp] theorem State.store_params (a : Word) (v : Byte) : (s.store a v).params = s.params := rfl
@[simp] theorem State.store_fetchedAt (a : Word) (v : Byte) : (s.store a v).fetchedAt = s.fetchedAt := rfl
@[simp] theorem State.store_cycles (a : Word) (v : Byte) : (s.store a v).cycles = s.cycles := rfl
@[simp] theorem State.store_bus (a : Word) (v : Byte) : (s.store a v).bus = s.bus := rfl

@[simp] theorem State.store_device (a : Word) (v : Byte) : (s.store a v).device = writeDevice s.params s.device a v := rfl
theorem State.store_mem (a : Word) (v : Byte) : (s.store a v).mem = storeCell s.params.regions s.mem a v := rfl

@[simp] theorem State.busWrite_regs (a : Word) (v : Byte) : (s.busWrite a v).regs = s.regs := rfl
@[simp] theorem State.busWrite_flags (a : Word) (v : Byte) : (s.busWrite a v).flags = s.flags := rfl
@[simp] theorem State.busWrite_sp (a : Word) (v : Byte) : (s.busWrite a v).sp = s.sp := rfl
@[simp] theorem State.busWrite_pc (a : Word) (v : Byte) : (s.busWrite a v).pc = s.pc := rfl
@[simp] theorem State.busWrite_ime (a : Word) (v : Byte) : (s.busWrite a v).ime = s.ime := rfl
@[simp] theorem State.busWrite_eiDelay (a : Word) (v : Byte) : (s.busWrite a v).eiDelay = s.eiDelay := rfl
@[simp] theorem State.busWrite_halted (a : Word) (v : Byte) : (s.busWrite a v).halted = s.halted := rfl
@[simp] theorem State.busWrite_stopped (a : Word) (v : Byte) : (s.busWrite a v).stopped = s.stopped := rfl
@[simp] theorem State.busWrite_haltBug (a : Word) (v : Byte) : (s.busWrite a v).haltBug = s.haltBug := rfl
@[simp] theorem State.busWrite_params (a : Word) (v : Byte) : (s.busWrite a v).params = s.params := rfl
@[simp] theorem State.busWrite_fetchedAt (a : Word) (v : Byte) : (s.busWrite a v).fetchedAt = s.fetchedAt := rfl
@[simp] theorem State.busWrite_cycles (a : Word) (v : Byte) : (s.busWrite a v).cycles = s.cycles := rfl

@[simp] theorem State.busWrite_device (a : Word) (v : Byte) : (s.busWrite a v).device = writeDevice s.params s.device a v := rfl
@[simp] theorem State.busWrite_mem (a : Word) (v : Byte) : (s.busWrite a v).mem = (s.store a v).mem := rfl
@[simp] theorem State.busWrite_bus (a : Word) (v : Byte) : (s.busWrite a v).bus = s.bus ++ [.write a v] := rfl

@[simp] theorem State.fetch8_val : s.fetch8.1 = s.peek s.pc := rfl
@[simp] theorem State.fetch8_2_regs : (s.fetch8).2.regs = s.regs := rfl
@[simp] theorem State.fetch8_2_flags : (s.fetch8).2.flags = s.flags := rfl
@[simp] theorem State.fetch8_2_sp : (s.fetch8).2.sp = s.sp := rfl
@[simp] theorem State.fetch8_2_ime : (s.fetch8).2.ime = s.ime := rfl
@[simp] theorem State.fetch8_2_eiDelay : (s.fetch8).2.eiDelay = s.eiDelay := rfl
@[simp] theorem State.fetch8_2_halted : (s.fetch8).2.halted = s.halted := rfl
@[simp] theorem State.fetch8_2_stopped : (s.fetch8).2.stopped = s.stopped := rfl
@[simp] theorem State.fetch8_2_haltBug : (s.fetch8).2.haltBug = s.haltBug := rfl
@[simp] theorem State.fetch8_2_mem : (s.fetch8).2.mem = s.mem := rfl
@[simp] theorem State.fetch8_2_params : (s.fetch8).2.params = s.params := rfl
@[simp] theorem State.fetch8_2_fetchedAt : (s.fetch8).2.fetchedAt = s.fetchedAt := rfl
@[simp] theorem State.fetch8_2_cycles : (s.fetch8).2.cycles = s.cycles := rfl

@[simp] theorem State.fetch8_2_device : s.fetch8.2.device = readDevice s.params s.device s.pc := rfl
@[simp] theorem State.fetch8_2_pc : s.fetch8.2.pc = s.pc + 1 := rfl
@[simp] theorem State.fetch8_2_bus : s.fetch8.2.bus = s.bus ++ [.read s.pc (s.peek s.pc)] := rfl

/-! ## The stack -/

@[simp] theorem State.push16_regs (v : Word) : (s.push16 v).regs = s.regs := by simp [State.push16]
@[simp] theorem State.push16_flags (v : Word) : (s.push16 v).flags = s.flags := by simp [State.push16]
@[simp] theorem State.push16_pc (v : Word) : (s.push16 v).pc = s.pc := by simp [State.push16]
@[simp] theorem State.push16_ime (v : Word) : (s.push16 v).ime = s.ime := by simp [State.push16]
@[simp] theorem State.push16_eiDelay (v : Word) : (s.push16 v).eiDelay = s.eiDelay := by simp [State.push16]
@[simp] theorem State.push16_halted (v : Word) : (s.push16 v).halted = s.halted := by simp [State.push16]
@[simp] theorem State.push16_stopped (v : Word) : (s.push16 v).stopped = s.stopped := by simp [State.push16]
@[simp] theorem State.push16_haltBug (v : Word) : (s.push16 v).haltBug = s.haltBug := by simp [State.push16]
@[simp] theorem State.push16_params (v : Word) : (s.push16 v).params = s.params := by simp [State.push16]
@[simp] theorem State.push16_fetchedAt (v : Word) : (s.push16 v).fetchedAt = s.fetchedAt := by simp [State.push16]
@[simp] theorem State.push16_cycles (v : Word) : (s.push16 v).cycles = s.cycles := by simp [State.push16]

@[simp] theorem State.pop16_2_regs : (s.pop16).2.regs = s.regs := rfl
@[simp] theorem State.pop16_2_flags : (s.pop16).2.flags = s.flags := rfl
@[simp] theorem State.pop16_2_pc : (s.pop16).2.pc = s.pc := rfl
@[simp] theorem State.pop16_2_ime : (s.pop16).2.ime = s.ime := rfl
@[simp] theorem State.pop16_2_eiDelay : (s.pop16).2.eiDelay = s.eiDelay := rfl
@[simp] theorem State.pop16_2_halted : (s.pop16).2.halted = s.halted := rfl
@[simp] theorem State.pop16_2_stopped : (s.pop16).2.stopped = s.stopped := rfl
@[simp] theorem State.pop16_2_haltBug : (s.pop16).2.haltBug = s.haltBug := rfl
@[simp] theorem State.pop16_2_mem : (s.pop16).2.mem = s.mem := rfl
@[simp] theorem State.pop16_2_params : (s.pop16).2.params = s.params := rfl
@[simp] theorem State.pop16_2_fetchedAt : (s.pop16).2.fetchedAt = s.fetchedAt := rfl
@[simp] theorem State.pop16_2_cycles : (s.pop16).2.cycles = s.cycles := rfl

/-! ## The collaborator's state after a list of accesses -/

variable (p : Params) (d : Nat)

@[simp] theorem deviceAfter_nil : deviceAfter p d [] = d := rfl
@[simp] theorem deviceAfter_read (a : Word) (v : Byte) (l : List BusAccess) : deviceAfter p d (.read a v :: l) = deviceAfter p (readDevice p d a) l := rfl
@[simp] theorem deviceAfter_write (a : Word) (v : Byte) (l : List BusAccess) : deviceAfter p d (.write a v :: l) = deviceAfter p (writeDevice p d a v) l := rfl
@[simp] theorem deviceAfter_append (l k : List BusAccess) :
    deviceAfter p d (l ++ k) = deviceAfter p (deviceAfter p d l) k := by
  induction l generalizing d with
  | nil => rfl
  | cons x l ih => cases x <;> simp [ih]

end Sys2Proof.Machine
end

