-- ==== Sys2Proof/Laws/Memory.lean ====
section
/-! SUPPORT. The laws of memory: what a read gives after a write, that every write keeps the canonical form, and what the
port and the stack leave at each address. -/

namespace Sys2Proof.Machine

/-! ## Cells -/

theorem Memory.read_write_same (m : List Host.Cell) (a : Nat) (v : Byte) (lo : Nat)
    (h : Memory.wfFrom lo m = true) : Memory.read (Memory.write m a v) a = v := by
  induction m generalizing lo with
  | nil => unfold Memory.write; split <;> simp_all [Memory.read]
  | cons c m ih =>
    obtain ⟨k, x⟩ := c
    simp only [Memory.wfFrom, Bool.and_eq_true, decide_eq_true_eq] at h
    have gone : ∀ (m : List Host.Cell) (l : Nat), a < l → Memory.wfFrom l m = true →
        Memory.read m a = Memory.unlisted := by
      intro m
      induction m with
      | nil => intros; rfl
      | cons c m ih =>
        obtain ⟨k, x⟩ := c
        intro l hl hw
        simp only [Memory.wfFrom, Bool.and_eq_true, decide_eq_true_eq] at hw
        rw [Memory.read, if_neg (by omega)]
        exact ih (k + 1) (by omega) hw.2
    unfold Memory.write
    by_cases h1 : k < a
    · rw [if_pos h1, Memory.read, if_neg (by omega)]
      exact ih (k + 1) h.2
    · rw [if_neg h1]
      by_cases h2 : k = a
      · subst h2
        by_cases hv : v = Memory.unlisted
        · subst hv; simp only [if_true]; exact gone m (k + 1) (by omega) h.2
        · simp [hv, Memory.read]
      · rw [if_neg h2]
        by_cases hv : v = Memory.unlisted
        · subst hv
          rw [if_pos rfl, Memory.read, if_neg h2]
          exact gone m (k + 1) (by omega) h.2
        · simp [hv, Memory.read]

theorem Memory.read_write_other (m : List Host.Cell) (a b : Nat) (v : Byte) (h : b ≠ a) :
    Memory.read (Memory.write m a v) b = Memory.read m b := by
  induction m with
  | nil => unfold Memory.write; split <;> simp [Memory.read, Ne.symm h]
  | cons c m ih =>
    obtain ⟨k, x⟩ := c
    unfold Memory.write
    by_cases h1 : k < a
    · simp only [h1, if_true, Memory.read, ih]
    · by_cases h2 : k = a
      · subst h2
        rw [if_neg h1, if_pos rfl]
        split <;> simp [Memory.read, Ne.symm h]
      · rw [if_neg h1, if_neg h2]
        split
        · rfl
        · rw [Memory.read, if_neg (Ne.symm h)]

theorem Memory.wfFrom_mono (m : List Host.Cell) (l k : Nat) (h : l ≤ k) (hw : Memory.wfFrom k m = true) :
    Memory.wfFrom l m = true := by
  cases m with
  | nil => rfl
  | cons c m =>
    obtain ⟨j, x⟩ := c
    simp only [Memory.wfFrom, Bool.and_eq_true, decide_eq_true_eq] at hw ⊢
    exact ⟨⟨⟨by omega, hw.1.1.2⟩, hw.1.2⟩, hw.2⟩

theorem Memory.wfFrom_write (m : List Host.Cell) (lo a : Nat) (v : Byte) (hlo : lo ≤ a) (ha : a < 65536)
    (h : Memory.wfFrom lo m = true) : Memory.wfFrom lo (Memory.write m a v) = true := by
  induction m generalizing lo with
  | nil =>
    unfold Memory.write
    split
    · rfl
    · simp [Memory.wfFrom, *]
  | cons c m ih =>
    obtain ⟨k, x⟩ := c
    simp only [Memory.wfFrom, Bool.and_eq_true, decide_eq_true_eq] at h
    unfold Memory.write
    by_cases h1 : k < a
    · rw [if_pos h1]
      simp only [Memory.wfFrom, Bool.and_eq_true, decide_eq_true_eq]
      exact ⟨h.1, ih (k + 1) (by omega) h.2⟩
    · rw [if_neg h1]
      by_cases h2 : k = a
      · subst h2
        rw [if_pos rfl]
        split
        · exact Memory.wfFrom_mono m lo (k + 1) (by omega) h.2
        · simp only [Memory.wfFrom, Bool.and_eq_true, decide_eq_true_eq]
          exact ⟨⟨⟨hlo, ha⟩, by simpa using ‹_›⟩, h.2⟩
      · rw [if_neg h2]
        split
        · simp only [Memory.wfFrom, Bool.and_eq_true, decide_eq_true_eq]; exact h
        · simp only [Memory.wfFrom, Bool.and_eq_true, decide_eq_true_eq]
          exact ⟨⟨⟨hlo, ha⟩, by simpa using ‹_›⟩, ⟨⟨by omega, h.1.1.2⟩, h.1.2⟩, h.2⟩

/-- Every write keeps the canonical form. -/
theorem Memory.wf_write (m : List Host.Cell) (a : Nat) (v : Byte) (ha : a < 65536)
    (h : Memory.wf m = true) : Memory.wf (Memory.write m a v) = true :=
  Memory.wfFrom_write m 0 a v (Nat.zero_le a) ha h

/-! ## Addresses -/

variable (s : State)

/-- Two states with the same `Mem` and parameters read alike. -/
theorem State.peek_congr (s t : State) (hm : t.mem = s.mem) (hd : t.device = s.device) (hp : t.params = s.params)
    (a : Word) : t.peek a = s.peek a := by
  unfold State.peek; rw [hm, hd, hp]

/-- Outside the external regions the collaborator's part does not matter. -/
theorem State.peek_congr_own (s t : State) (hm : t.mem = s.mem) (hp : t.params = s.params) (a : Word)
    (h : external s.params.regions a = false) : t.peek a = s.peek a := by
  simp [State.peek, hm, hp, h]

/-- Whether a write is kept depends on the cell alone. -/
theorem writable_congr (rs : List Region) (a b : Word) (h : cellOf rs a = cellOf rs b) :
    writable rs a = writable rs b := by
  unfold writable; rw [h]

/-- So does who owns the address. -/
theorem external_congr (rs : List Region) (a b : Word) (h : cellOf rs a = cellOf rs b) :
    external rs a = external rs b := by
  unfold external; rw [h]

/-- A read-only region is not the collaborator's. -/
theorem external_of_readOnly (rs : List Region) (a : Word) (h : writable rs a = false) : external rs a = false := by
  unfold writable external at *
  split at h
  · rename_i e; rw [e]
  · cases h

theorem State.peek_cell (a b : Word) (h : cellOf s.params.regions a = cellOf s.params.regions b) :
    s.peek a = s.peek b := by
  unfold State.peek; rw [h, external_congr _ _ _ h]

/-- Reads and writes outside the external regions leave the collaborator's part alone. -/
theorem readDevice_own (p : Params) (d : Nat) (a : Word) (h : external p.regions a = false) : readDevice p d a = d := by
  simp [readDevice, h]
theorem writeDevice_own (p : Params) (d : Nat) (a : Word) (v : Byte) (h : external p.regions a = false) :
    writeDevice p d a v = d := by
  simp [writeDevice, h]

/-- Reads of IE and IF leave it alone where the core samples requests (R441). -/
theorem readDevice_request (p : Params) (d : Nat) (h : p.irq = .canonical) :
    readDevice p d addrIE = d ∧ readDevice p d addrIF = d := by
  simp [readDevice, h]

theorem State.mem_store_wf (a : Word) (v : Byte) (h : Memory.wf s.mem = true) :
    Memory.wf (s.store a v).mem = true := by
  rw [State.store_mem, storeCell]
  split
  · exact Memory.wf_write _ _ _ (BitVec.isLt _) h
  · exact h

/-- Two states with the same memory and parameters have the same memory after a write. -/
theorem State.mem_store_congr (x y : State) (a : Word) (v : Byte) (hm : x.mem = y.mem) (hp : x.params = y.params) :
    (x.store a v).mem = (y.store a v).mem := by
  rw [State.store_mem, State.store_mem, hp, hm]

/-- What an address reads as after a write to one that shows another cell. -/
theorem State.peek_store_other (a b : Word) (v : Byte) (ho : external s.params.regions b = false)
    (h : cellOf s.params.regions b ≠ cellOf s.params.regions a) : (s.store a v).peek b = s.peek b := by
  simp only [State.peek, State.store_params, ho, State.store_mem, storeCell, Bool.false_eq_true, if_false]
  split
  · exact Memory.read_write_other _ _ _ _ fun e => h (BitVec.eq_of_toNat_eq e)
  · rfl

/-- A write outside the external regions leaves them alone. -/
theorem State.peek_store_external (a b : Word) (v : Byte) (ha : external s.params.regions a = false)
    (hb : external s.params.regions b = true) : (s.store a v).peek b = s.peek b := by
  simp [State.peek, hb, writeDevice_own _ _ _ _ ha]

/-- What an address reads as after a write to it or to another that shows the same cell. -/
theorem State.peek_store_same (a b : Word) (v : Byte) (hw : Memory.wf s.mem = true)
    (ho : external s.params.regions b = false) (h : cellOf s.params.regions b = cellOf s.params.regions a) :
    (s.store a v).peek b = if writable s.params.regions a then v else s.peek b := by
  have ha := external_congr _ _ _ h ▸ ho
  simp only [State.peek, State.store_params, ho, State.store_mem, storeCell, h, ha, Bool.not_false, Bool.and_true,
    Bool.false_eq_true, if_false]
  split
  · exact Memory.read_write_same _ _ _ 0 hw
  · rfl

theorem State.peek_store_self (a : Word) (v : Byte) (hw : Memory.wf s.mem = true)
    (ho : external s.params.regions a = false) :
    (s.store a v).peek a = if writable s.params.regions a then v else s.peek a :=
  State.peek_store_same s a a v hw ho rfl

/-! ## What leaves memory alone -/

@[simp] theorem State.peek_setReg (r : Reg) (v : Byte) (a : Word) : (s.setReg r v).peek a = s.peek a :=
  State.peek_congr _ _ (by simp) (by simp) (by simp) a
@[simp] theorem State.peek_setPair (p : Pair) (v : Word) (a : Word) : (s.setPair p v).peek a = s.peek a :=
  State.peek_congr _ _ (by simp) (by simp) (by simp) a
@[simp] theorem State.peek_setStackPair (q : StackPair) (v : Word) (a : Word) :
    (s.setStackPair q v).peek a = s.peek a :=
  State.peek_congr _ _ (by simp) (by simp) (by simp) a
@[simp] theorem State.peek_setFlags (f : Flags) (a : Word) : (s.setFlags f).peek a = s.peek a := rfl
@[simp] theorem State.peek_jump (b a : Word) : (s.jump b).peek a = s.peek a := rfl
@[simp] theorem State.peek_report (n : Nat) (a : Word) : (s.report n).peek a = s.peek a := rfl
@[simp] theorem State.peek_beginStep (a : Word) : s.beginStep.peek a = s.peek a := rfl
@[simp] theorem State.peek_afterRead (b a : Word) : (s.afterRead b).peek a = s.peekAfter b a := rfl
@[simp] theorem State.peek_busRead (b a : Word) : (s.busRead b).2.peek a = s.peekAfter b a := rfl
@[simp] theorem State.peek_fetch8 (a : Word) : s.fetch8.2.peek a = s.peekAfter s.pc a := rfl
@[simp] theorem State.peek_busWrite (b a : Word) (v : Byte) : (s.busWrite b v).peek a = (s.store b v).peek a := rfl

/-- A read changes what an address reads as only in an external region. -/
theorem State.peekAfter_own (b a : Word) (h : external s.params.regions a = false) : s.peekAfter b a = s.peek a :=
  State.peek_congr_own s (s.afterRead b) rfl rfl a h
theorem State.peek_pop16_own (a : Word) (h : external s.params.regions a = false) : s.pop16.2.peek a = s.peek a :=
  State.peek_congr_own s s.pop16.2 rfl rfl a h

/-! ## The stack (R310, R311) -/

@[simp] theorem State.pop16_val : s.pop16.1 = wordAt s s.sp := rfl
@[simp] theorem State.pop16_2_sp : s.pop16.2.sp = s.sp + 2 := rfl
@[simp] theorem State.pop16_2_device :
    s.pop16.2.device = deviceAfter s.params s.device (wordReads s s.sp) := rfl
@[simp] theorem State.pop16_2_bus : s.pop16.2.bus = s.bus ++ wordReads s s.sp := by
  simp only [State.pop16, State.busRead, wordReads, List.append_assoc, List.cons_append, List.nil_append]
  rfl

/-- SP after a push. -/
@[simp] theorem State.push16_sp (v : Word) : (s.push16 v).sp = s.sp - 2 := by
  simp only [State.push16, State.busWrite_sp]; bv_omega

/-- The accesses of a push. -/
@[simp] theorem State.push16_bus (v : Word) :
    (s.push16 v).bus = s.bus ++ [.write (s.sp - 1) (hiByte v), .write (s.sp - 2) (loByte v)] := by
  have e : s.sp - 1 - 1 = s.sp - 2 := by bv_omega
  simp only [State.push16, State.busWrite_bus, State.busWrite_sp, e, List.append_assoc, List.cons_append,
    List.nil_append]

/-- A push is two writes: the high byte at SP - 1, then the low byte at SP - 2. -/
theorem State.push16_mem (v : Word) :
    (s.push16 v).mem = ((s.store (s.sp - 1) (hiByte v)).store (s.sp - 2) (loByte v)).mem := by
  have e : s.sp - 1 - 1 = s.sp - 2 := by bv_omega
  rw [← e]; rfl

@[simp] theorem State.push16_device (v : Word) :
    (s.push16 v).device = deviceAfter s.params s.device
      [.write (s.sp - 1) (hiByte v), .write (s.sp - 2) (loByte v)] := by
  have e : s.sp - 1 - 1 = s.sp - 2 := by bv_omega
  rw [← e]; rfl

theorem State.peek_push16 (v : Word) (a : Word) :
    (s.push16 v).peek a = ((s.store (s.sp - 1) (hiByte v)).store (s.sp - 2) (loByte v)).peek a :=
  State.peek_congr _ _ (State.push16_mem s v) (by simp) (by simp) a

theorem State.mem_push16_wf (v : Word) (h : Memory.wf s.mem = true) : Memory.wf (s.push16 v).mem = true := by
  rw [State.push16_mem]; exact State.mem_store_wf _ _ _ (State.mem_store_wf _ _ _ h)

/-- A write to one of two cells leaves an address that shows another alone. -/
theorem State.peek_push16_other (v : Word) (a : Word) (ho : external s.params.regions a = false)
    (h1 : cellOf s.params.regions a ≠ cellOf s.params.regions (s.sp - 1))
    (h2 : cellOf s.params.regions a ≠ cellOf s.params.regions (s.sp - 2)) : (s.push16 v).peek a = s.peek a := by
  rw [State.peek_push16, State.peek_store_other (s.store _ _) _ _ _ ho h2, State.peek_store_other s _ _ _ ho h1]

end Sys2Proof.Machine
end

