-- ==== Sys2Proof/Laws/Registers.lean ====
section
/-! SUPPORT. The laws of the registers and their views: what each register and pair reads as after each update. -/

namespace Sys2Proof.Machine

variable (s : State)

/-! ## Words and bytes -/

theorem word_toNat (hi lo : Byte) : (word hi lo).toNat = hi.toNat * 256 + lo.toNat := by
  have : (word hi lo).toNat = hi.toNat <<< 8 ||| lo.toNat := BitVec.toNat_append ..
  rw [this, Nat.shiftLeft_eq, Nat.mul_comm, ← Nat.two_pow_add_eq_or_of_lt lo.isLt]

theorem hiByte_toNat (v : Word) : (hiByte v).toNat = v.toNat / 256 := by
  have := v.isLt
  simp only [hiByte, BitVec.extractLsb'_toNat, Nat.shiftRight_eq_div_pow]; omega

theorem loByte_toNat (v : Word) : (loByte v).toNat = v.toNat % 256 := by
  simp [loByte, BitVec.extractLsb'_toNat]

@[simp] theorem hiByte_word (hi lo : Byte) : hiByte (word hi lo) = hi := by
  apply BitVec.eq_of_toNat_eq; rw [hiByte_toNat, word_toNat]; omega

@[simp] theorem loByte_word (hi lo : Byte) : loByte (word hi lo) = lo := by
  apply BitVec.eq_of_toNat_eq; rw [loByte_toNat, word_toNat]; omega

@[simp] theorem word_halves (v : Word) : word (hiByte v) (loByte v) = v := by
  apply BitVec.eq_of_toNat_eq; rw [word_toNat, loByte_toNat, hiByte_toNat]; omega

@[simp] theorem hiByte_wordAt (a : Word) : hiByte (wordAt s a) = s.peekAfter a (a + 1) := hiByte_word _ _
@[simp] theorem loByte_wordAt (a : Word) : loByte (wordAt s a) = s.peek a := loByte_word _ _

theorem wrap8_toNat (v : Int) : (wrap8 v).toNat = (v % 256).toNat := by
  simp [wrap8, BitVec.toNat_ofInt]

theorem wrap16_toNat (v : Int) : (wrap16 v).toNat = (v % 65536).toNat := by
  simp [wrap16, BitVec.toNat_ofInt]

theorem wrap16_add_one (v : Word) : wrap16 (v.toNat + 1) = v + 1 := by
  apply BitVec.eq_of_toNat_eq; rw [wrap16_toNat, BitVec.toNat_add]; simp; omega

theorem wrap16_sub_one (v : Word) : wrap16 (v.toNat - 1) = v - 1 := by
  apply BitVec.eq_of_toNat_eq; rw [wrap16_toNat, BitVec.toNat_sub]; simp; omega

theorem wrap8_add_one (v : Byte) : wrap8 (v.toNat + 1) = v + 1 := by
  apply BitVec.eq_of_toNat_eq; rw [wrap8_toNat, BitVec.toNat_add]; simp; omega

theorem wrap8_sub_one (v : Byte) : wrap8 (v.toNat - 1) = v - 1 := by
  apply BitVec.eq_of_toNat_eq; rw [wrap8_toNat, BitVec.toNat_sub]; simp; omega

/-! ## Registers -/

theorem State.reg_congr (s t : State) (h : t.regs = s.regs) (r : Reg) : t.reg r = s.reg r := by
  cases r <;> simp [State.reg, h]
theorem State.hl_congr (s t : State) (h : t.regs = s.regs) : t.hl = s.hl := by
  unfold State.hl; rw [h]

@[simp] theorem State.reg_setReg_same (r : Reg) (v : Byte) : (s.setReg r v).reg r = v := by
  cases r <;> rfl
@[simp] theorem State.reg_setReg_other (r q : Reg) (v : Byte) (h : q ≠ r) : (s.setReg r v).reg q = s.reg q := by
  cases r <;> cases q <;> first | exact absurd rfl h | rfl
theorem State.setReg_self (r : Reg) : s.setReg r (s.reg r) = s := by
  cases r <;> rfl
@[simp] theorem State.reg_setPair_other (p : Pair) (v : Word) (r : Reg) (h : r ∉ pairRegs p) :
    (s.setPair p v).reg r = s.reg r := by
  cases p <;> cases r <;> first | rfl | exact absurd (by decide) h
@[simp] theorem State.reg_setStackPair_other (q : StackPair) (v : Word) (r : Reg) (h : r ∉ stackPairRegs q) :
    (s.setStackPair q v).reg r = s.reg r := by
  cases q <;> cases r <;> first | rfl | exact absurd (by decide) h
@[simp] theorem State.pair_setPair_same (p : Pair) (v : Word) : (s.setPair p v).pair p = v := by
  cases p <;> first | rfl | exact word_halves v
@[simp] theorem State.hl_setPair (v : Word) : (s.setPair .HL v).hl = v := word_halves v
@[simp] theorem State.setPair_sp_regs (v : Word) : (s.setPair .SP v).regs = s.regs := rfl
@[simp] theorem State.setPair_sp_sp (v : Word) : (s.setPair .SP v).sp = v := rfl
theorem State.setPair_sp (p : Pair) (v : Word) : (s.setPair p v).sp = if p = .SP then v else s.sp := by
  cases p <;> rfl
@[simp] theorem State.setPair_hl_sp (v : Word) : (s.setPair .HL v).sp = s.sp := rfl
@[simp] theorem State.hl_setReg_A (v : Byte) : (s.setReg .A v).hl = s.hl := rfl
theorem State.pair_congr (s t : State) (h : t.regs = s.regs) (hs : t.sp = s.sp) (p : Pair) : t.pair p = s.pair p := by
  cases p <;> simp [State.pair, State.hl, h, hs]

@[simp] theorem State.reg_setFlags (f : Flags) (r : Reg) : (s.setFlags f).reg r = s.reg r :=
  State.reg_congr _ _ (by simp) r
@[simp] theorem State.hl_setFlags (f : Flags) : (s.setFlags f).hl = s.hl := State.hl_congr _ _ (by simp)
@[simp] theorem State.reg_jump (a : Word) (r : Reg) : (s.jump a).reg r = s.reg r :=
  State.reg_congr _ _ (by simp) r
@[simp] theorem State.hl_jump (a : Word) : (s.jump a).hl = s.hl := State.hl_congr _ _ (by simp)
@[simp] theorem State.reg_report (n : Nat) (r : Reg) : (s.report n).reg r = s.reg r :=
  State.reg_congr _ _ (by simp) r
@[simp] theorem State.hl_report (n : Nat) : (s.report n).hl = s.hl := State.hl_congr _ _ (by simp)
@[simp] theorem State.reg_beginStep (r : Reg) : s.beginStep.reg r = s.reg r :=
  State.reg_congr _ _ (by simp) r
@[simp] theorem State.hl_beginStep : s.beginStep.hl = s.hl := State.hl_congr _ _ (by simp)
@[simp] theorem State.reg_busRead (a : Word) (r : Reg) : (s.busRead a).2.reg r = s.reg r :=
  State.reg_congr _ _ (by simp) r
@[simp] theorem State.hl_busRead (a : Word) : (s.busRead a).2.hl = s.hl := State.hl_congr _ _ (by simp)
@[simp] theorem State.reg_store (a : Word) (v : Byte) (r : Reg) : (s.store a v).reg r = s.reg r :=
  State.reg_congr _ _ (by simp) r
@[simp] theorem State.hl_store (a : Word) (v : Byte) : (s.store a v).hl = s.hl := State.hl_congr _ _ (by simp)
@[simp] theorem State.reg_busWrite (a : Word) (v : Byte) (r : Reg) : (s.busWrite a v).reg r = s.reg r :=
  State.reg_congr _ _ (by simp) r
@[simp] theorem State.hl_busWrite (a : Word) (v : Byte) : (s.busWrite a v).hl = s.hl := State.hl_congr _ _ (by simp)
@[simp] theorem State.reg_fetch8 (r : Reg) : s.fetch8.2.reg r = s.reg r :=
  State.reg_congr _ _ (by simp) r
@[simp] theorem State.hl_fetch8 : s.fetch8.2.hl = s.hl := State.hl_congr _ _ (by simp)
@[simp] theorem State.reg_push16 (v : Word) (r : Reg) : (s.push16 v).reg r = s.reg r :=
  State.reg_congr _ _ (by simp) r
@[simp] theorem State.hl_push16 (v : Word) : (s.push16 v).hl = s.hl := State.hl_congr _ _ (by simp)
@[simp] theorem State.reg_pop16 (r : Reg) : s.pop16.2.reg r = s.reg r :=
  State.reg_congr _ _ (by simp) r
@[simp] theorem State.hl_pop16 : s.pop16.2.hl = s.hl := State.hl_congr _ _ (by simp)
@[simp] theorem State.pair_setFlags (f : Flags) (p : Pair) : (s.setFlags f).pair p = s.pair p :=
  State.pair_congr _ _ (by simp) (by simp) p
@[simp] theorem State.pair_jump (a : Word) (p : Pair) : (s.jump a).pair p = s.pair p :=
  State.pair_congr _ _ (by simp) (by simp) p
@[simp] theorem State.pair_report (n : Nat) (p : Pair) : (s.report n).pair p = s.pair p :=
  State.pair_congr _ _ (by simp) (by simp) p
@[simp] theorem State.pair_beginStep (p : Pair) : s.beginStep.pair p = s.pair p :=
  State.pair_congr _ _ (by simp) (by simp) p
@[simp] theorem State.pair_busRead (a : Word) (p : Pair) : (s.busRead a).2.pair p = s.pair p :=
  State.pair_congr _ _ (by simp) (by simp) p
@[simp] theorem State.pair_store (a : Word) (v : Byte) (p : Pair) : (s.store a v).pair p = s.pair p :=
  State.pair_congr _ _ (by simp) (by simp) p
@[simp] theorem State.pair_busWrite (a : Word) (v : Byte) (p : Pair) : (s.busWrite a v).pair p = s.pair p :=
  State.pair_congr _ _ (by simp) (by simp) p
@[simp] theorem State.pair_fetch8 (p : Pair) : s.fetch8.2.pair p = s.pair p :=
  State.pair_congr _ _ (by simp) (by simp) p

end Sys2Proof.Machine
end

