-- ==== Sys2Proof/Laws/Shapes.lean ====
section
/-! SUPPORT. The instructions by shape: what `exec` does with each row of the table that differs only in its operands, and a case split of
`Instr` by shape in place of one by constructor. -/

namespace Sys2Proof.Laws

open Sys2Proof.Machine

theorem exec_ldRegReg (d r : Reg) (s : State) :
    exec (Row.ldRegReg d r) s = Machine.ldRegReg d r s := by
  cases d <;> cases r <;> rfl

theorem exec_ldRegImm (d : Reg) (n : Byte) (s : State) :
    exec (Row.ldRegImm d n) s = Machine.ldRegImm d n s := by
  cases d <;> rfl

theorem exec_ldRegIndHL (d : Reg) (s : State) :
    exec (Row.ldRegIndHL d) s = Machine.ldRegIndHL d s := by
  cases d <;> rfl

theorem exec_ldIndHLReg (r : Reg) (s : State) :
    exec (Row.ldIndHLReg r) s = Machine.ldIndHLReg r s := by
  cases r <;> rfl

theorem exec_ldPairImm (p : Pair) (nn : Word) (s : State) :
    exec (Row.ldPairImm p nn) s = Machine.ldPairImm p nn s := by
  cases p <;> rfl

theorem exec_loadA (m : AddrForm) (s : State) :
    exec (Row.loadA m) s = Machine.loadA m s := by
  cases m <;> rfl

theorem exec_storeA (m : AddrForm) (s : State) :
    exec (Row.storeA m) s = Machine.storeA m s := by
  cases m <;> rfl

theorem exec_inc (x : Operand) (s : State) :
    exec (Row.inc x) s = Machine.inc x s := by
  rcases x with (_ | _ | _ | _ | _ | _ | _) | _ <;> rfl

theorem exec_dec (x : Operand) (s : State) :
    exec (Row.dec x) s = Machine.dec x s := by
  rcases x with (_ | _ | _ | _ | _ | _ | _) | _ <;> rfl

theorem exec_incPair (p : Pair) (s : State) :
    exec (Row.incPair p) s = Machine.incPair p s := by
  cases p <;> rfl

theorem exec_decPair (p : Pair) (s : State) :
    exec (Row.decPair p) s = Machine.decPair p s := by
  cases p <;> rfl

theorem exec_addHL (p : Pair) (s : State) :
    exec (Row.addHL p) s = Machine.addHL p s := by
  cases p <;> rfl

theorem exec_alu (op : AluOp) (x : Operand) (s : State) :
    exec (Row.alu op x) s = Machine.alu op x s := by
  cases op <;> rcases x with (_ | _ | _ | _ | _ | _ | _) | _ <;> rfl

theorem exec_aluImm (op : AluOp) (n : Byte) (s : State) :
    exec (Row.aluImm op n) s = Machine.aluImm op n s := by
  cases op <;> rfl

theorem exec_push (q : StackPair) (s : State) :
    exec (Row.push q) s = Machine.push q s := by
  cases q <;> rfl

theorem exec_pop (q : StackPair) (s : State) :
    exec (Row.pop q) s = Machine.pop q s := by
  cases q <;> rfl

theorem exec_jpCond (cc : Cond) (nn : Word) (s : State) :
    exec (Row.jpCond cc nn) s = Machine.jpCond cc nn s := by
  cases cc <;> rfl

theorem exec_jrCond (cc : Cond) (e : Byte) (s : State) :
    exec (Row.jrCond cc e) s = Machine.jrCond cc e s := by
  cases cc <;> rfl

theorem exec_callCond (cc : Cond) (nn : Word) (s : State) :
    exec (Row.callCond cc nn) s = Machine.callCond cc nn s := by
  cases cc <;> rfl

theorem exec_retCond (cc : Cond) (s : State) :
    exec (Row.retCond cc) s = Machine.retCond cc s := by
  cases cc <;> rfl

theorem exec_rst (t : RstTarget) (s : State) :
    exec (Row.rst t) s = Machine.rst t s := by
  cases t <;> rfl

theorem exec_accRot (op : RotOp) (s : State) :
    exec (Row.accRot op) s = Machine.accRot op s := by
  cases op <;> rfl

theorem exec_shift (op : ShiftOp) (x : Operand) (s : State) :
    exec (Row.shift op x) s = Machine.shift op x s := by
  rcases op with (_ | _ | _ | _) | _ | _ | _ | _ <;> rcases x with (_ | _ | _ | _ | _ | _ | _) | _ <;> rfl

theorem exec_bit (b : BitNo) (x : Operand) (s : State) :
    exec (Row.bit b x) s = Machine.bitTest b x s := by
  cases b <;> rcases x with (_ | _ | _ | _ | _ | _ | _) | _ <;> rfl

theorem exec_res (b : BitNo) (x : Operand) (s : State) :
    exec (Row.res b x) s = Machine.bitRes b x s := by
  cases b <;> rcases x with (_ | _ | _ | _ | _ | _ | _) | _ <;> rfl

theorem exec_set (b : BitNo) (x : Operand) (s : State) :
    exec (Row.set b x) s = Machine.bitSet b x s := by
  cases b <;> rcases x with (_ | _ | _ | _ | _ | _ | _) | _ <;> rfl

/-- To show something of every instruction, show it of each shape. -/
theorem byShape {P : Instr → Prop}
    (h_ldRegReg : ∀ (d r : Reg), P (Row.ldRegReg d r))
    (h_ldRegImm : ∀ (d : Reg) (n : Byte), P (Row.ldRegImm d n))
    (h_ldRegIndHL : ∀ (d : Reg), P (Row.ldRegIndHL d))
    (h_ldIndHLReg : ∀ (r : Reg), P (Row.ldIndHLReg r))
    (h_ldPairImm : ∀ (p : Pair) (nn : Word), P (Row.ldPairImm p nn))
    (h_loadA : ∀ (m : AddrForm), P (Row.loadA m))
    (h_storeA : ∀ (m : AddrForm), P (Row.storeA m))
    (h_inc : ∀ (x : Operand), P (Row.inc x))
    (h_dec : ∀ (x : Operand), P (Row.dec x))
    (h_incPair : ∀ (p : Pair), P (Row.incPair p))
    (h_decPair : ∀ (p : Pair), P (Row.decPair p))
    (h_addHL : ∀ (p : Pair), P (Row.addHL p))
    (h_alu : ∀ (op : AluOp) (x : Operand), P (Row.alu op x))
    (h_aluImm : ∀ (op : AluOp) (n : Byte), P (Row.aluImm op n))
    (h_push : ∀ (q : StackPair), P (Row.push q))
    (h_pop : ∀ (q : StackPair), P (Row.pop q))
    (h_jpCond : ∀ (cc : Cond) (nn : Word), P (Row.jpCond cc nn))
    (h_jrCond : ∀ (cc : Cond) (e : Byte), P (Row.jrCond cc e))
    (h_callCond : ∀ (cc : Cond) (nn : Word), P (Row.callCond cc nn))
    (h_retCond : ∀ (cc : Cond), P (Row.retCond cc))
    (h_rst : ∀ (t : RstTarget), P (Row.rst t))
    (h_accRot : ∀ (op : RotOp), P (Row.accRot op))
    (h_shift : ∀ (op : ShiftOp) (x : Operand), P (Row.shift op x))
    (h_bit : ∀ (b : BitNo) (x : Operand), P (Row.bit b x))
    (h_res : ∀ (b : BitNo) (x : Operand), P (Row.res b x))
    (h_set : ∀ (b : BitNo) (x : Operand), P (Row.set b x))
    (h_ldIndNNSP : ∀ nn : Word, P (.ldIndNNSP nn))
    (h_stop : ∀ pad : Byte, P (.stop pad))
    (h_jrE : ∀ e : Byte, P (.jrE e))
    (h_ldIndHLn : ∀ n : Byte, P (.ldIndHLn n))
    (h_jpNn : ∀ nn : Word, P (.jpNn nn))
    (h_callNn : ∀ nn : Word, P (.callNn nn))
    (h_undefined : ∀ op : Byte, P (.undefined op))
    (h_addSPe : ∀ e : Byte, P (.addSPe e))
    (h_ldHLSPe : ∀ e : Byte, P (.ldHLSPe e))
    (h_nop : P .nop)
    (h_daa : P .daa)
    (h_cpl : P .cpl)
    (h_scf : P .scf)
    (h_ccf : P .ccf)
    (h_halt : P .halt)
    (h_ret : P .ret)
    (h_prefixCb : P .prefixCb)
    (h_reti : P .reti)
    (h_jpHL : P .jpHL)
    (h_di : P .di)
    (h_ldSPHL : P .ldSPHL)
    (h_ei : P .ei)
    (i : Instr) : P i :=
  match i with
  | .ldBCnn nn => h_ldPairImm .BC nn
  | .ldBn n => h_ldRegImm .B n
  | .ldIndNNSP nn => h_ldIndNNSP nn
  | .ldCn n => h_ldRegImm .C n
  | .stop pad => h_stop pad
  | .ldDEnn nn => h_ldPairImm .DE nn
  | .ldDn n => h_ldRegImm .D n
  | .jrE e => h_jrE e
  | .ldEn n => h_ldRegImm .E n
  | .jrNZe e => h_jrCond .NZ e
  | .ldHLnn nn => h_ldPairImm .HL nn
  | .ldHn n => h_ldRegImm .H n
  | .jrZe e => h_jrCond .Z e
  | .ldLn n => h_ldRegImm .L n
  | .jrNCe e => h_jrCond .NC e
  | .ldSPnn nn => h_ldPairImm .SP nn
  | .ldIndHLn n => h_ldIndHLn n
  | .jrCe e => h_jrCond .C e
  | .ldAn n => h_ldRegImm .A n
  | .jpNZnn nn => h_jpCond .NZ nn
  | .jpNn nn => h_jpNn nn
  | .callNZnn nn => h_callCond .NZ nn
  | .addAn n => h_aluImm .add n
  | .jpZnn nn => h_jpCond .Z nn
  | .callZnn nn => h_callCond .Z nn
  | .callNn nn => h_callNn nn
  | .adcAn n => h_aluImm .adc n
  | .jpNCnn nn => h_jpCond .NC nn
  | .undefined op => h_undefined op
  | .callNCnn nn => h_callCond .NC nn
  | .subAn n => h_aluImm .sub n
  | .jpCnn nn => h_jpCond .C nn
  | .callCnn nn => h_callCond .C nn
  | .sbcAn n => h_aluImm .sbc n
  | .ldhIndNA n => h_storeA (.highN n)
  | .andAn n => h_aluImm .and n
  | .addSPe e => h_addSPe e
  | .ldIndNNA nn => h_storeA (.indNN nn)
  | .xorAn n => h_aluImm .xor n
  | .ldhAIndN n => h_loadA (.highN n)
  | .orAn n => h_aluImm .or n
  | .ldHLSPe e => h_ldHLSPe e
  | .ldAIndNN nn => h_loadA (.indNN nn)
  | .cpAn n => h_aluImm .cp n
  | .nop => h_nop
  | .ldIndBCA => h_storeA .indBC
  | .incBC => h_incPair .BC
  | .incB => h_inc (.reg .B)
  | .decB => h_dec (.reg .B)
  | .rlca => h_accRot .rlc
  | .addHLBC => h_addHL .BC
  | .ldAIndBC => h_loadA .indBC
  | .decBC => h_decPair .BC
  | .incC => h_inc (.reg .C)
  | .decC => h_dec (.reg .C)
  | .rrca => h_accRot .rrc
  | .ldIndDEA => h_storeA .indDE
  | .incDE => h_incPair .DE
  | .incD => h_inc (.reg .D)
  | .decD => h_dec (.reg .D)
  | .rla => h_accRot .rl
  | .addHLDE => h_addHL .DE
  | .ldAIndDE => h_loadA .indDE
  | .decDE => h_decPair .DE
  | .incE => h_inc (.reg .E)
  | .decE => h_dec (.reg .E)
  | .rra => h_accRot .rr
  | .ldIndHLIA => h_storeA .indHLI
  | .incHL => h_incPair .HL
  | .incH => h_inc (.reg .H)
  | .decH => h_dec (.reg .H)
  | .daa => h_daa
  | .addHLHL => h_addHL .HL
  | .ldAIndHLI => h_loadA .indHLI
  | .decHL => h_decPair .HL
  | .incL => h_inc (.reg .L)
  | .decL => h_dec (.reg .L)
  | .cpl => h_cpl
  | .ldIndHLDA => h_storeA .indHLD
  | .incSP => h_incPair .SP
  | .incIndHL => h_inc .indHL
  | .decIndHL => h_dec .indHL
  | .scf => h_scf
  | .addHLSP => h_addHL .SP
  | .ldAIndHLD => h_loadA .indHLD
  | .decSP => h_decPair .SP
  | .incA => h_inc (.reg .A)
  | .decA => h_dec (.reg .A)
  | .ccf => h_ccf
  | .ldBB => h_ldRegReg .B .B
  | .ldBC => h_ldRegReg .B .C
  | .ldBD => h_ldRegReg .B .D
  | .ldBE => h_ldRegReg .B .E
  | .ldBH => h_ldRegReg .B .H
  | .ldBL => h_ldRegReg .B .L
  | .ldBIndHL => h_ldRegIndHL .B
  | .ldBA => h_ldRegReg .B .A
  | .ldCB => h_ldRegReg .C .B
  | .ldCC => h_ldRegReg .C .C
  | .ldCD => h_ldRegReg .C .D
  | .ldCE => h_ldRegReg .C .E
  | .ldCH => h_ldRegReg .C .H
  | .ldCL => h_ldRegReg .C .L
  | .ldCIndHL => h_ldRegIndHL .C
  | .ldCA => h_ldRegReg .C .A
  | .ldDB => h_ldRegReg .D .B
  | .ldDC => h_ldRegReg .D .C
  | .ldDD => h_ldRegReg .D .D
  | .ldDE => h_ldRegReg .D .E
  | .ldDH => h_ldRegReg .D .H
  | .ldDL => h_ldRegReg .D .L
  | .ldDIndHL => h_ldRegIndHL .D
  | .ldDA => h_ldRegReg .D .A
  | .ldEB => h_ldRegReg .E .B
  | .ldEC => h_ldRegReg .E .C
  | .ldED => h_ldRegReg .E .D
  | .ldEE => h_ldRegReg .E .E
  | .ldEH => h_ldRegReg .E .H
  | .ldEL => h_ldRegReg .E .L
  | .ldEIndHL => h_ldRegIndHL .E
  | .ldEA => h_ldRegReg .E .A
  | .ldHB => h_ldRegReg .H .B
  | .ldHC => h_ldRegReg .H .C
  | .ldHD => h_ldRegReg .H .D
  | .ldHE => h_ldRegReg .H .E
  | .ldHH => h_ldRegReg .H .H
  | .ldHL => h_ldRegReg .H .L
  | .ldHIndHL => h_ldRegIndHL .H
  | .ldHA => h_ldRegReg .H .A
  | .ldLB => h_ldRegReg .L .B
  | .ldLC => h_ldRegReg .L .C
  | .ldLD => h_ldRegReg .L .D
  | .ldLE => h_ldRegReg .L .E
  | .ldLH => h_ldRegReg .L .H
  | .ldLL => h_ldRegReg .L .L
  | .ldLIndHL => h_ldRegIndHL .L
  | .ldLA => h_ldRegReg .L .A
  | .ldIndHLB => h_ldIndHLReg .B
  | .ldIndHLC => h_ldIndHLReg .C
  | .ldIndHLD => h_ldIndHLReg .D
  | .ldIndHLE => h_ldIndHLReg .E
  | .ldIndHLH => h_ldIndHLReg .H
  | .ldIndHLL => h_ldIndHLReg .L
  | .halt => h_halt
  | .ldIndHLA => h_ldIndHLReg .A
  | .ldAB => h_ldRegReg .A .B
  | .ldAC => h_ldRegReg .A .C
  | .ldAD => h_ldRegReg .A .D
  | .ldAE => h_ldRegReg .A .E
  | .ldAH => h_ldRegReg .A .H
  | .ldAL => h_ldRegReg .A .L
  | .ldAIndHL => h_ldRegIndHL .A
  | .ldAA => h_ldRegReg .A .A
  | .addAB => h_alu .add (.reg .B)
  | .addAC => h_alu .add (.reg .C)
  | .addAD => h_alu .add (.reg .D)
  | .addAE => h_alu .add (.reg .E)
  | .addAH => h_alu .add (.reg .H)
  | .addAL => h_alu .add (.reg .L)
  | .addAIndHL => h_alu .add .indHL
  | .addAA => h_alu .add (.reg .A)
  | .adcAB => h_alu .adc (.reg .B)
  | .adcAC => h_alu .adc (.reg .C)
  | .adcAD => h_alu .adc (.reg .D)
  | .adcAE => h_alu .adc (.reg .E)
  | .adcAH => h_alu .adc (.reg .H)
  | .adcAL => h_alu .adc (.reg .L)
  | .adcAIndHL => h_alu .adc .indHL
  | .adcAA => h_alu .adc (.reg .A)
  | .subAB => h_alu .sub (.reg .B)
  | .subAC => h_alu .sub (.reg .C)
  | .subAD => h_alu .sub (.reg .D)
  | .subAE => h_alu .sub (.reg .E)
  | .subAH => h_alu .sub (.reg .H)
  | .subAL => h_alu .sub (.reg .L)
  | .subAIndHL => h_alu .sub .indHL
  | .subAA => h_alu .sub (.reg .A)
  | .sbcAB => h_alu .sbc (.reg .B)
  | .sbcAC => h_alu .sbc (.reg .C)
  | .sbcAD => h_alu .sbc (.reg .D)
  | .sbcAE => h_alu .sbc (.reg .E)
  | .sbcAH => h_alu .sbc (.reg .H)
  | .sbcAL => h_alu .sbc (.reg .L)
  | .sbcAIndHL => h_alu .sbc .indHL
  | .sbcAA => h_alu .sbc (.reg .A)
  | .andAB => h_alu .and (.reg .B)
  | .andAC => h_alu .and (.reg .C)
  | .andAD => h_alu .and (.reg .D)
  | .andAE => h_alu .and (.reg .E)
  | .andAH => h_alu .and (.reg .H)
  | .andAL => h_alu .and (.reg .L)
  | .andAIndHL => h_alu .and .indHL
  | .andAA => h_alu .and (.reg .A)
  | .xorAB => h_alu .xor (.reg .B)
  | .xorAC => h_alu .xor (.reg .C)
  | .xorAD => h_alu .xor (.reg .D)
  | .xorAE => h_alu .xor (.reg .E)
  | .xorAH => h_alu .xor (.reg .H)
  | .xorAL => h_alu .xor (.reg .L)
  | .xorAIndHL => h_alu .xor .indHL
  | .xorAA => h_alu .xor (.reg .A)
  | .orAB => h_alu .or (.reg .B)
  | .orAC => h_alu .or (.reg .C)
  | .orAD => h_alu .or (.reg .D)
  | .orAE => h_alu .or (.reg .E)
  | .orAH => h_alu .or (.reg .H)
  | .orAL => h_alu .or (.reg .L)
  | .orAIndHL => h_alu .or .indHL
  | .orAA => h_alu .or (.reg .A)
  | .cpAB => h_alu .cp (.reg .B)
  | .cpAC => h_alu .cp (.reg .C)
  | .cpAD => h_alu .cp (.reg .D)
  | .cpAE => h_alu .cp (.reg .E)
  | .cpAH => h_alu .cp (.reg .H)
  | .cpAL => h_alu .cp (.reg .L)
  | .cpAIndHL => h_alu .cp .indHL
  | .cpAA => h_alu .cp (.reg .A)
  | .retNZ => h_retCond .NZ
  | .popBC => h_pop .BC
  | .pushBC => h_push .BC
  | .rst00 => h_rst .t00
  | .retZ => h_retCond .Z
  | .ret => h_ret
  | .prefixCb => h_prefixCb
  | .rst08 => h_rst .t08
  | .retNC => h_retCond .NC
  | .popDE => h_pop .DE
  | .pushDE => h_push .DE
  | .rst10 => h_rst .t10
  | .retC => h_retCond .C
  | .reti => h_reti
  | .rst18 => h_rst .t18
  | .popHL => h_pop .HL
  | .ldIndCA => h_storeA .highC
  | .pushHL => h_push .HL
  | .rst20 => h_rst .t20
  | .jpHL => h_jpHL
  | .rst28 => h_rst .t28
  | .popAF => h_pop .AF
  | .ldAIndC => h_loadA .highC
  | .di => h_di
  | .pushAF => h_push .AF
  | .rst30 => h_rst .t30
  | .ldSPHL => h_ldSPHL
  | .ei => h_ei
  | .rst38 => h_rst .t38
  | .rlcB => h_shift (.rot .rlc) (.reg .B)
  | .rlcC => h_shift (.rot .rlc) (.reg .C)
  | .rlcD => h_shift (.rot .rlc) (.reg .D)
  | .rlcE => h_shift (.rot .rlc) (.reg .E)
  | .rlcH => h_shift (.rot .rlc) (.reg .H)
  | .rlcL => h_shift (.rot .rlc) (.reg .L)
  | .rlcIndHL => h_shift (.rot .rlc) .indHL
  | .rlcA => h_shift (.rot .rlc) (.reg .A)
  | .rrcB => h_shift (.rot .rrc) (.reg .B)
  | .rrcC => h_shift (.rot .rrc) (.reg .C)
  | .rrcD => h_shift (.rot .rrc) (.reg .D)
  | .rrcE => h_shift (.rot .rrc) (.reg .E)
  | .rrcH => h_shift (.rot .rrc) (.reg .H)
  | .rrcL => h_shift (.rot .rrc) (.reg .L)
  | .rrcIndHL => h_shift (.rot .rrc) .indHL
  | .rrcA => h_shift (.rot .rrc) (.reg .A)
  | .rlB => h_shift (.rot .rl) (.reg .B)
  | .rlC => h_shift (.rot .rl) (.reg .C)
  | .rlD => h_shift (.rot .rl) (.reg .D)
  | .rlE => h_shift (.rot .rl) (.reg .E)
  | .rlH => h_shift (.rot .rl) (.reg .H)
  | .rlL => h_shift (.rot .rl) (.reg .L)
  | .rlIndHL => h_shift (.rot .rl) .indHL
  | .rlA => h_shift (.rot .rl) (.reg .A)
  | .rrB => h_shift (.rot .rr) (.reg .B)
  | .rrC => h_shift (.rot .rr) (.reg .C)
  | .rrD => h_shift (.rot .rr) (.reg .D)
  | .rrE => h_shift (.rot .rr) (.reg .E)
  | .rrH => h_shift (.rot .rr) (.reg .H)
  | .rrL => h_shift (.rot .rr) (.reg .L)
  | .rrIndHL => h_shift (.rot .rr) .indHL
  | .rrA => h_shift (.rot .rr) (.reg .A)
  | .slaB => h_shift .sla (.reg .B)
  | .slaC => h_shift .sla (.reg .C)
  | .slaD => h_shift .sla (.reg .D)
  | .slaE => h_shift .sla (.reg .E)
  | .slaH => h_shift .sla (.reg .H)
  | .slaL => h_shift .sla (.reg .L)
  | .slaIndHL => h_shift .sla .indHL
  | .slaA => h_shift .sla (.reg .A)
  | .sraB => h_shift .sra (.reg .B)
  | .sraC => h_shift .sra (.reg .C)
  | .sraD => h_shift .sra (.reg .D)
  | .sraE => h_shift .sra (.reg .E)
  | .sraH => h_shift .sra (.reg .H)
  | .sraL => h_shift .sra (.reg .L)
  | .sraIndHL => h_shift .sra .indHL
  | .sraA => h_shift .sra (.reg .A)
  | .swapB => h_shift .swap (.reg .B)
  | .swapC => h_shift .swap (.reg .C)
  | .swapD => h_shift .swap (.reg .D)
  | .swapE => h_shift .swap (.reg .E)
  | .swapH => h_shift .swap (.reg .H)
  | .swapL => h_shift .swap (.reg .L)
  | .swapIndHL => h_shift .swap .indHL
  | .swapA => h_shift .swap (.reg .A)
  | .srlB => h_shift .srl (.reg .B)
  | .srlC => h_shift .srl (.reg .C)
  | .srlD => h_shift .srl (.reg .D)
  | .srlE => h_shift .srl (.reg .E)
  | .srlH => h_shift .srl (.reg .H)
  | .srlL => h_shift .srl (.reg .L)
  | .srlIndHL => h_shift .srl .indHL
  | .srlA => h_shift .srl (.reg .A)
  | .bit0B => h_bit .b0 (.reg .B)
  | .bit0C => h_bit .b0 (.reg .C)
  | .bit0D => h_bit .b0 (.reg .D)
  | .bit0E => h_bit .b0 (.reg .E)
  | .bit0H => h_bit .b0 (.reg .H)
  | .bit0L => h_bit .b0 (.reg .L)
  | .bit0IndHL => h_bit .b0 .indHL
  | .bit0A => h_bit .b0 (.reg .A)
  | .bit1B => h_bit .b1 (.reg .B)
  | .bit1C => h_bit .b1 (.reg .C)
  | .bit1D => h_bit .b1 (.reg .D)
  | .bit1E => h_bit .b1 (.reg .E)
  | .bit1H => h_bit .b1 (.reg .H)
  | .bit1L => h_bit .b1 (.reg .L)
  | .bit1IndHL => h_bit .b1 .indHL
  | .bit1A => h_bit .b1 (.reg .A)
  | .bit2B => h_bit .b2 (.reg .B)
  | .bit2C => h_bit .b2 (.reg .C)
  | .bit2D => h_bit .b2 (.reg .D)
  | .bit2E => h_bit .b2 (.reg .E)
  | .bit2H => h_bit .b2 (.reg .H)
  | .bit2L => h_bit .b2 (.reg .L)
  | .bit2IndHL => h_bit .b2 .indHL
  | .bit2A => h_bit .b2 (.reg .A)
  | .bit3B => h_bit .b3 (.reg .B)
  | .bit3C => h_bit .b3 (.reg .C)
  | .bit3D => h_bit .b3 (.reg .D)
  | .bit3E => h_bit .b3 (.reg .E)
  | .bit3H => h_bit .b3 (.reg .H)
  | .bit3L => h_bit .b3 (.reg .L)
  | .bit3IndHL => h_bit .b3 .indHL
  | .bit3A => h_bit .b3 (.reg .A)
  | .bit4B => h_bit .b4 (.reg .B)
  | .bit4C => h_bit .b4 (.reg .C)
  | .bit4D => h_bit .b4 (.reg .D)
  | .bit4E => h_bit .b4 (.reg .E)
  | .bit4H => h_bit .b4 (.reg .H)
  | .bit4L => h_bit .b4 (.reg .L)
  | .bit4IndHL => h_bit .b4 .indHL
  | .bit4A => h_bit .b4 (.reg .A)
  | .bit5B => h_bit .b5 (.reg .B)
  | .bit5C => h_bit .b5 (.reg .C)
  | .bit5D => h_bit .b5 (.reg .D)
  | .bit5E => h_bit .b5 (.reg .E)
  | .bit5H => h_bit .b5 (.reg .H)
  | .bit5L => h_bit .b5 (.reg .L)
  | .bit5IndHL => h_bit .b5 .indHL
  | .bit5A => h_bit .b5 (.reg .A)
  | .bit6B => h_bit .b6 (.reg .B)
  | .bit6C => h_bit .b6 (.reg .C)
  | .bit6D => h_bit .b6 (.reg .D)
  | .bit6E => h_bit .b6 (.reg .E)
  | .bit6H => h_bit .b6 (.reg .H)
  | .bit6L => h_bit .b6 (.reg .L)
  | .bit6IndHL => h_bit .b6 .indHL
  | .bit6A => h_bit .b6 (.reg .A)
  | .bit7B => h_bit .b7 (.reg .B)
  | .bit7C => h_bit .b7 (.reg .C)
  | .bit7D => h_bit .b7 (.reg .D)
  | .bit7E => h_bit .b7 (.reg .E)
  | .bit7H => h_bit .b7 (.reg .H)
  | .bit7L => h_bit .b7 (.reg .L)
  | .bit7IndHL => h_bit .b7 .indHL
  | .bit7A => h_bit .b7 (.reg .A)
  | .res0B => h_res .b0 (.reg .B)
  | .res0C => h_res .b0 (.reg .C)
  | .res0D => h_res .b0 (.reg .D)
  | .res0E => h_res .b0 (.reg .E)
  | .res0H => h_res .b0 (.reg .H)
  | .res0L => h_res .b0 (.reg .L)
  | .res0IndHL => h_res .b0 .indHL
  | .res0A => h_res .b0 (.reg .A)
  | .res1B => h_res .b1 (.reg .B)
  | .res1C => h_res .b1 (.reg .C)
  | .res1D => h_res .b1 (.reg .D)
  | .res1E => h_res .b1 (.reg .E)
  | .res1H => h_res .b1 (.reg .H)
  | .res1L => h_res .b1 (.reg .L)
  | .res1IndHL => h_res .b1 .indHL
  | .res1A => h_res .b1 (.reg .A)
  | .res2B => h_res .b2 (.reg .B)
  | .res2C => h_res .b2 (.reg .C)
  | .res2D => h_res .b2 (.reg .D)
  | .res2E => h_res .b2 (.reg .E)
  | .res2H => h_res .b2 (.reg .H)
  | .res2L => h_res .b2 (.reg .L)
  | .res2IndHL => h_res .b2 .indHL
  | .res2A => h_res .b2 (.reg .A)
  | .res3B => h_res .b3 (.reg .B)
  | .res3C => h_res .b3 (.reg .C)
  | .res3D => h_res .b3 (.reg .D)
  | .res3E => h_res .b3 (.reg .E)
  | .res3H => h_res .b3 (.reg .H)
  | .res3L => h_res .b3 (.reg .L)
  | .res3IndHL => h_res .b3 .indHL
  | .res3A => h_res .b3 (.reg .A)
  | .res4B => h_res .b4 (.reg .B)
  | .res4C => h_res .b4 (.reg .C)
  | .res4D => h_res .b4 (.reg .D)
  | .res4E => h_res .b4 (.reg .E)
  | .res4H => h_res .b4 (.reg .H)
  | .res4L => h_res .b4 (.reg .L)
  | .res4IndHL => h_res .b4 .indHL
  | .res4A => h_res .b4 (.reg .A)
  | .res5B => h_res .b5 (.reg .B)
  | .res5C => h_res .b5 (.reg .C)
  | .res5D => h_res .b5 (.reg .D)
  | .res5E => h_res .b5 (.reg .E)
  | .res5H => h_res .b5 (.reg .H)
  | .res5L => h_res .b5 (.reg .L)
  | .res5IndHL => h_res .b5 .indHL
  | .res5A => h_res .b5 (.reg .A)
  | .res6B => h_res .b6 (.reg .B)
  | .res6C => h_res .b6 (.reg .C)
  | .res6D => h_res .b6 (.reg .D)
  | .res6E => h_res .b6 (.reg .E)
  | .res6H => h_res .b6 (.reg .H)
  | .res6L => h_res .b6 (.reg .L)
  | .res6IndHL => h_res .b6 .indHL
  | .res6A => h_res .b6 (.reg .A)
  | .res7B => h_res .b7 (.reg .B)
  | .res7C => h_res .b7 (.reg .C)
  | .res7D => h_res .b7 (.reg .D)
  | .res7E => h_res .b7 (.reg .E)
  | .res7H => h_res .b7 (.reg .H)
  | .res7L => h_res .b7 (.reg .L)
  | .res7IndHL => h_res .b7 .indHL
  | .res7A => h_res .b7 (.reg .A)
  | .set0B => h_set .b0 (.reg .B)
  | .set0C => h_set .b0 (.reg .C)
  | .set0D => h_set .b0 (.reg .D)
  | .set0E => h_set .b0 (.reg .E)
  | .set0H => h_set .b0 (.reg .H)
  | .set0L => h_set .b0 (.reg .L)
  | .set0IndHL => h_set .b0 .indHL
  | .set0A => h_set .b0 (.reg .A)
  | .set1B => h_set .b1 (.reg .B)
  | .set1C => h_set .b1 (.reg .C)
  | .set1D => h_set .b1 (.reg .D)
  | .set1E => h_set .b1 (.reg .E)
  | .set1H => h_set .b1 (.reg .H)
  | .set1L => h_set .b1 (.reg .L)
  | .set1IndHL => h_set .b1 .indHL
  | .set1A => h_set .b1 (.reg .A)
  | .set2B => h_set .b2 (.reg .B)
  | .set2C => h_set .b2 (.reg .C)
  | .set2D => h_set .b2 (.reg .D)
  | .set2E => h_set .b2 (.reg .E)
  | .set2H => h_set .b2 (.reg .H)
  | .set2L => h_set .b2 (.reg .L)
  | .set2IndHL => h_set .b2 .indHL
  | .set2A => h_set .b2 (.reg .A)
  | .set3B => h_set .b3 (.reg .B)
  | .set3C => h_set .b3 (.reg .C)
  | .set3D => h_set .b3 (.reg .D)
  | .set3E => h_set .b3 (.reg .E)
  | .set3H => h_set .b3 (.reg .H)
  | .set3L => h_set .b3 (.reg .L)
  | .set3IndHL => h_set .b3 .indHL
  | .set3A => h_set .b3 (.reg .A)
  | .set4B => h_set .b4 (.reg .B)
  | .set4C => h_set .b4 (.reg .C)
  | .set4D => h_set .b4 (.reg .D)
  | .set4E => h_set .b4 (.reg .E)
  | .set4H => h_set .b4 (.reg .H)
  | .set4L => h_set .b4 (.reg .L)
  | .set4IndHL => h_set .b4 .indHL
  | .set4A => h_set .b4 (.reg .A)
  | .set5B => h_set .b5 (.reg .B)
  | .set5C => h_set .b5 (.reg .C)
  | .set5D => h_set .b5 (.reg .D)
  | .set5E => h_set .b5 (.reg .E)
  | .set5H => h_set .b5 (.reg .H)
  | .set5L => h_set .b5 (.reg .L)
  | .set5IndHL => h_set .b5 .indHL
  | .set5A => h_set .b5 (.reg .A)
  | .set6B => h_set .b6 (.reg .B)
  | .set6C => h_set .b6 (.reg .C)
  | .set6D => h_set .b6 (.reg .D)
  | .set6E => h_set .b6 (.reg .E)
  | .set6H => h_set .b6 (.reg .H)
  | .set6L => h_set .b6 (.reg .L)
  | .set6IndHL => h_set .b6 .indHL
  | .set6A => h_set .b6 (.reg .A)
  | .set7B => h_set .b7 (.reg .B)
  | .set7C => h_set .b7 (.reg .C)
  | .set7D => h_set .b7 (.reg .D)
  | .set7E => h_set .b7 (.reg .E)
  | .set7H => h_set .b7 (.reg .H)
  | .set7L => h_set .b7 (.reg .L)
  | .set7IndHL => h_set .b7 .indHL
  | .set7A => h_set .b7 (.reg .A)

end Sys2Proof.Laws
end

