-- ==== Sys2Proof/Laws/Operations.lean ====
section
/-! SUPPORT. What reading and writing an operand does, and the next state of every shared meaning, written without the
pattern matching of its definition. -/

namespace Sys2Proof.Machine

variable (s : State)

/-! ## Operands -/

@[simp] theorem State.readOperand_val (x : Operand) : (s.readOperand x).1 = operandValue s x := by
  cases x <;> rfl
@[simp] theorem State.readOperand_2_regs (x : Operand) : (s.readOperand x).2.regs = s.regs := by cases x <;> rfl
@[simp] theorem State.readOperand_2_flags (x : Operand) : (s.readOperand x).2.flags = s.flags := by cases x <;> rfl
@[simp] theorem State.readOperand_2_sp (x : Operand) : (s.readOperand x).2.sp = s.sp := by cases x <;> rfl
@[simp] theorem State.readOperand_2_pc (x : Operand) : (s.readOperand x).2.pc = s.pc := by cases x <;> rfl
@[simp] theorem State.readOperand_2_ime (x : Operand) : (s.readOperand x).2.ime = s.ime := by cases x <;> rfl
@[simp] theorem State.readOperand_2_eiDelay (x : Operand) : (s.readOperand x).2.eiDelay = s.eiDelay := by cases x <;> rfl
@[simp] theorem State.readOperand_2_halted (x : Operand) : (s.readOperand x).2.halted = s.halted := by cases x <;> rfl
@[simp] theorem State.readOperand_2_stopped (x : Operand) : (s.readOperand x).2.stopped = s.stopped := by cases x <;> rfl
@[simp] theorem State.readOperand_2_haltBug (x : Operand) : (s.readOperand x).2.haltBug = s.haltBug := by cases x <;> rfl
@[simp] theorem State.readOperand_2_mem (x : Operand) : (s.readOperand x).2.mem = s.mem := by cases x <;> rfl
@[simp] theorem State.readOperand_2_params (x : Operand) : (s.readOperand x).2.params = s.params := by cases x <;> rfl
@[simp] theorem State.readOperand_2_fetchedAt (x : Operand) : (s.readOperand x).2.fetchedAt = s.fetchedAt := by cases x <;> rfl
@[simp] theorem State.readOperand_2_cycles (x : Operand) : (s.readOperand x).2.cycles = s.cycles := by cases x <;> rfl
@[simp] theorem State.readOperand_2_bus (x : Operand) :
    (s.readOperand x).2.bus = s.bus ++ operandReads s x := by
  cases x <;> simp [State.readOperand, operandReads]
@[simp] theorem State.readOperand_2_device (x : Operand) :
    (s.readOperand x).2.device = deviceAfter s.params s.device (operandReads s x) := by
  cases x <;> rfl
theorem State.peek_readOperand_own (x : Operand) (a : Word) (h : external s.params.regions a = false) :
    (s.readOperand x).2.peek a = s.peek a :=
  State.peek_congr_own _ _ (by simp) (by simp) a h
@[simp] theorem State.reg_readOperand (x : Operand) (r : Reg) : (s.readOperand x).2.reg r = s.reg r :=
  State.reg_congr _ _ (by simp) r
@[simp] theorem State.hl_readOperand (x : Operand) : (s.readOperand x).2.hl = s.hl :=
  State.hl_congr _ _ (by simp)

@[simp] theorem State.writeOperand_flags (x : Operand) (v : Byte) : (s.writeOperand x v).flags = s.flags := by
  cases x <;> simp [State.writeOperand]
@[simp] theorem State.writeOperand_sp (x : Operand) (v : Byte) : (s.writeOperand x v).sp = s.sp := by
  cases x <;> simp [State.writeOperand]
@[simp] theorem State.writeOperand_pc (x : Operand) (v : Byte) : (s.writeOperand x v).pc = s.pc := by
  cases x <;> simp [State.writeOperand]
@[simp] theorem State.writeOperand_ime (x : Operand) (v : Byte) : (s.writeOperand x v).ime = s.ime := by
  cases x <;> simp [State.writeOperand]
@[simp] theorem State.writeOperand_eiDelay (x : Operand) (v : Byte) : (s.writeOperand x v).eiDelay = s.eiDelay := by
  cases x <;> simp [State.writeOperand]
@[simp] theorem State.writeOperand_halted (x : Operand) (v : Byte) : (s.writeOperand x v).halted = s.halted := by
  cases x <;> simp [State.writeOperand]
@[simp] theorem State.writeOperand_stopped (x : Operand) (v : Byte) : (s.writeOperand x v).stopped = s.stopped := by
  cases x <;> simp [State.writeOperand]
@[simp] theorem State.writeOperand_haltBug (x : Operand) (v : Byte) : (s.writeOperand x v).haltBug = s.haltBug := by
  cases x <;> simp [State.writeOperand]
@[simp] theorem State.writeOperand_params (x : Operand) (v : Byte) : (s.writeOperand x v).params = s.params := by
  cases x <;> simp [State.writeOperand]
@[simp] theorem State.writeOperand_fetchedAt (x : Operand) (v : Byte) : (s.writeOperand x v).fetchedAt = s.fetchedAt := by
  cases x <;> simp [State.writeOperand]
@[simp] theorem State.writeOperand_cycles (x : Operand) (v : Byte) : (s.writeOperand x v).cycles = s.cycles := by
  cases x <;> simp [State.writeOperand]
@[simp] theorem State.writeOperand_bus (x : Operand) (v : Byte) :
    (s.writeOperand x v).bus = s.bus ++ operandWrites s v x := by
  cases x <;> simp [State.writeOperand, operandWrites]
@[simp] theorem State.writeOperand_device (x : Operand) (v : Byte) :
    (s.writeOperand x v).device = deviceAfter s.params s.device (operandWrites s v x) := by
  cases x <;> simp [State.writeOperand, operandWrites]
@[simp] theorem operandWrites_readOperand (x y : Operand) (v : Byte) :
    operandWrites (s.readOperand y).2 v x = operandWrites s v x := by
  cases x <;> simp [operandWrites]

/-- Only the registers the operand is are written. -/
theorem State.reg_writeOperand_other (x : Operand) (v : Byte) (r : Reg) (h : r ∉ operandRegs x) :
    (s.writeOperand x v).reg r = s.reg r := by
  cases x with
  | reg q => exact State.reg_setReg_other s q r v (by simpa [operandRegs] using h)
  | indHL => simp [State.writeOperand]

/-- Only an address that shows the operand's cell can change. -/
theorem State.peek_writeOperand_other (x : Operand) (v : Byte) (a : Word)
    (ho : external s.params.regions a = false) (h : ∀ b ∈ operandAddrs s x, cellOf s.params.regions a ≠ cellOf s.params.regions b) :
    (s.writeOperand x v).peek a = s.peek a := by
  cases x with
  | reg q => simp [State.writeOperand]
  | indHL =>
    simp only [State.writeOperand, State.peek_busWrite]
    exact State.peek_store_other s _ _ _ ho (h s.hl (by simp [operandAddrs]))

@[simp] theorem operandAddrs_readOperand (x y : Operand) :
    operandAddrs (s.readOperand y).2 x = operandAddrs s x := by
  cases x <;> simp [operandAddrs]

/-- Reading an operand first changes nothing of what a write leaves. -/
@[simp] theorem State.reg_readOperand_writeOperand (x y : Operand) (v : Byte) (r : Reg) :
    ((s.readOperand y).2.writeOperand x v).reg r = (s.writeOperand x v).reg r := by
  cases y with
  | reg _ => rfl
  | indHL =>
    cases x with
    | reg q => cases q <;> rfl
    | indHL => simp [State.writeOperand]
@[simp] theorem State.mem_readOperand_writeOperand (x y : Operand) (v : Byte) :
    ((s.readOperand y).2.writeOperand x v).mem = (s.writeOperand x v).mem := by
  cases y with
  | reg _ => rfl
  | indHL =>
    cases x with
    | reg q => simp [State.writeOperand]
    | indHL => exact State.mem_store_congr _ _ _ _ rfl rfl
theorem State.peek_readOperand_writeOperand (x y : Operand) (v : Byte) (a : Word)
    (h : external s.params.regions a = false) :
    ((s.readOperand y).2.writeOperand x v).peek a = (s.writeOperand x v).peek a :=
  State.peek_congr_own _ _ (by simp) (by simp) a (by simpa using h)

/-- What the operand holds once written. -/
theorem State.writeOperand_holds (t : State) (x : Operand) (v : Byte) (hw : Memory.wf s.mem = true)
    (hr : ∀ r, t.reg r = (s.writeOperand x v).reg r)
    (hp : ∀ a, external s.params.regions a = false → t.peek a = (s.writeOperand x v).peek a) :
    OperandHolds s t x v := by
  cases x with
  | reg q => simp [OperandHolds, hr, State.writeOperand]
  | indHL =>
    intro ho
    rw [hp _ ho]
    exact State.peek_store_same s _ _ _ hw ho rfl

theorem State.mem_writeOperand_wf (x : Operand) (v : Byte) (h : Memory.wf s.mem = true) :
    Memory.wf (s.writeOperand x v).mem = true := by
  cases x with
  | reg q => simpa [State.writeOperand] using h
  | indHL => exact State.mem_store_wf s _ _ h

/-! ## Memory forms -/

@[simp] theorem State.formAfter_flags (m : AddrForm) : (s.formAfter m).flags = s.flags := by
  cases m <;> rfl
@[simp] theorem State.formAfter_sp (m : AddrForm) : (s.formAfter m).sp = s.sp := by
  cases m <;> rfl
@[simp] theorem State.formAfter_pc (m : AddrForm) : (s.formAfter m).pc = s.pc := by
  cases m <;> rfl
@[simp] theorem State.formAfter_ime (m : AddrForm) : (s.formAfter m).ime = s.ime := by
  cases m <;> rfl
@[simp] theorem State.formAfter_eiDelay (m : AddrForm) : (s.formAfter m).eiDelay = s.eiDelay := by
  cases m <;> rfl
@[simp] theorem State.formAfter_halted (m : AddrForm) : (s.formAfter m).halted = s.halted := by
  cases m <;> rfl
@[simp] theorem State.formAfter_stopped (m : AddrForm) : (s.formAfter m).stopped = s.stopped := by
  cases m <;> rfl
@[simp] theorem State.formAfter_haltBug (m : AddrForm) : (s.formAfter m).haltBug = s.haltBug := by
  cases m <;> rfl
@[simp] theorem State.formAfter_mem (m : AddrForm) : (s.formAfter m).mem = s.mem := by
  cases m <;> rfl
@[simp] theorem State.formAfter_params (m : AddrForm) : (s.formAfter m).params = s.params := by
  cases m <;> rfl
@[simp] theorem State.formAfter_fetchedAt (m : AddrForm) : (s.formAfter m).fetchedAt = s.fetchedAt := by
  cases m <;> rfl
@[simp] theorem State.formAfter_cycles (m : AddrForm) : (s.formAfter m).cycles = s.cycles := by
  cases m <;> rfl
@[simp] theorem State.formAfter_bus (m : AddrForm) : (s.formAfter m).bus = s.bus := by
  cases m <;> rfl
@[simp] theorem State.formAfter_device (m : AddrForm) : (s.formAfter m).device = s.device := by
  cases m <;> rfl
@[simp] theorem State.peek_formAfter (m : AddrForm) (a : Word) : (s.formAfter m).peek a = s.peek a :=
  State.peek_congr _ _ (by simp) (by simp) (by simp) a

theorem State.reg_formAfter_other (m : AddrForm) (r : Reg) (h : r ∉ formRegs m) : (s.formAfter m).reg r = s.reg r := by
  cases m <;> cases r <;> first | rfl | exact absurd (by decide) h

@[simp] theorem State.reg_formAfter_A (m : AddrForm) : (s.formAfter m).reg .A = s.reg .A := by
  cases m <;> rfl

/-- Where HL stands after a memory form. -/
@[simp] theorem State.hl_formAfter (m : AddrForm) : (s.formAfter m).hl = hlAfter m s.hl := by
  cases m <;> simp [State.formAfter, hlAfter, State.setPairInt, wrap16_add_one, wrap16_sub_one]

/-! ## Fetching operand bytes, two writes, pc-relative and page addresses -/

theorem State.fetch8_2 : s.fetch8.2 = afterOperand s := rfl

theorem State.fetch8_fetch8_2 : s.fetch8.2.fetch8.2 = afterOperands s := by
  have e : s.pc + 1 + 1 = s.pc + 2 := by bv_omega
  simp only [State.fetch8, State.busRead, afterOperands, wordReads, State.afterRead_pc, e, List.append_assoc,
    List.cons_append, List.nil_append]
  rfl

theorem operandWord_eq : word s.fetch8.2.fetch8.1 s.fetch8.1 = operandWord s := rfl

/-- What two addresses hold after a write to each. -/
theorem holdsBoth_store_store (t : State) (a b : Word) (v w : Byte) (hw : Memory.wf s.mem = true)
    (hp : ∀ x, external s.params.regions x = false → t.peek x = ((s.store a v).store b w).peek x) :
    HoldsBoth s t a v b w := by
  have hw' := State.mem_store_wf s a v hw
  refine ⟨fun h ho => ?_, fun ho => ?_⟩
  · rw [hp _ ho, State.peek_store_other (s.store a v) _ _ _ ho h, State.peek_store_same s _ _ _ hw ho rfl]
  · rw [hp _ ho, State.peek_store_same (s.store a v) _ _ _ hw' ho rfl, State.store_params]
    split
    · rfl
    · rename_i h
      by_cases e : cellOf s.params.regions b = cellOf s.params.regions a
      · rw [State.peek_store_same s _ _ _ hw ho e, ← writable_congr _ _ _ e, if_neg h]
      · exact State.peek_store_other s _ _ _ ho e

/-- Where a byte reads as before after a write to each of two addresses. -/
theorem peek_store_store_other (a b x : Word) (v w : Byte) (ho : external s.params.regions x = false)
    (h : ∀ c ∈ [a, b], cellOf s.params.regions x ≠ cellOf s.params.regions c) :
    ((s.store a v).store b w).peek x = s.peek x := by
  rw [State.peek_store_other (s.store a v) _ _ _ ho (h b (by simp)), State.peek_store_other s _ _ _ ho (h a (by simp))]

@[simp] theorem State.mem_store_busWrite (a b : Word) (v w : Byte) :
    ((s.busWrite a v).store b w).mem = ((s.store a v).store b w).mem := rfl

@[simp] theorem State.peek_store_busWrite (a b x : Word) (v w : Byte) :
    ((s.busWrite a v).store b w).peek x = ((s.store a v).store b w).peek x := rfl

theorem highPage_eq (n : Byte) : wrap16 (0xFF00 + n.toNat : Nat) = 0xFF00 + n.zeroExtend 16 := by
  apply BitVec.eq_of_toNat_eq; rw [wrap16_toNat, BitVec.toNat_add]; simp; omega

theorem displace_eq (v : Word) (e : Byte) : wrap16 (v.toNat + signed8 e) = v + e.signExtend 16 := by
  have h : signed8 e = e.toInt := by
    unfold signed8; rw [BitVec.toInt_eq_toNat_cond]; split <;> split <;> omega
  rw [h, wrap16, BitVec.ofInt_add, BitVec.ofInt_natCast, BitVec.ofNat_toNat, BitVec.setWidth_eq, BitVec.signExtend]

@[simp] theorem State.relTarget_eq (e : Byte) : s.relTarget e = s.pc + e.signExtend 16 := displace_eq _ _

/-! ## The cycle counts (R480) -/

@[simp] theorem countIn_nil (f : CycleForm) : countIn [] f = defaultCount f := rfl

@[simp] theorem countIn_cons_self (f : CycleForm) (n : Nat) (rest : List (CycleForm × Nat)) :
    countIn ((f, n) :: rest) f = n := if_pos rfl

theorem countIn_cons_other {g f : CycleForm} (h : g ≠ f) (n : Nat) (rest : List (CycleForm × Nat)) :
    countIn ((g, n) :: rest) f = countIn rest f := if_neg h

/-- The count depends on the parameters alone. -/
theorem State.count_congr {s t : State} (h : t.params = s.params) (f : CycleForm) : t.count f = s.count f := by
  simp only [State.count, h]

/-! ## The shared meanings -/

theorem ldRegIndHL_eq (d : Reg) : ldRegIndHL d s =
    .next (((s.busRead s.hl).2.setReg d (s.peek s.hl)).report (s.count (.ldRegIndHL d))) := rfl

theorem loadA_eq (m : AddrForm) : loadA m s =
    .next ((((s.busRead (s.formAddr m)).2.setReg .A (s.peek (s.formAddr m))).formAfter m).report
      (s.count (.loadA m.kind))) := rfl

theorem inc_eq (x : Operand) : inc x s =
    .next ((((s.readOperand x).2.writeOperand x (inc8 (operandValue s x) s.flags).1).setFlags
      (inc8 (operandValue s x) s.flags).2).report (s.count (.inc x))) := by
  simp only [← State.readOperand_val]; rfl

theorem dec_eq (x : Operand) : dec x s =
    .next ((((s.readOperand x).2.writeOperand x (dec8 (operandValue s x) s.flags).1).setFlags
      (dec8 (operandValue s x) s.flags).2).report (s.count (.dec x))) := by
  simp only [← State.readOperand_val]; rfl

theorem alu_eq (op : AluOp) (x : Operand) : alu op x s =
    .next ((((s.readOperand x).2.setReg .A (aluResult op s.regs.a (operandValue s x) s.flags).1).setFlags
      (aluResult op s.regs.a (operandValue s x) s.flags).2).report (s.count (.alu op x))) := by
  simp only [← State.readOperand_val]; rfl

theorem aluImm_eq (op : AluOp) (n : Byte) : aluImm op n s =
    .next (((s.setReg .A (aluResult op s.regs.a n s.flags).1).setFlags
      (aluResult op s.regs.a n s.flags).2).report (s.count (.aluImm op))) := rfl

theorem addHL_eq (p : Pair) : addHL p s =
    .next (((s.setPair .HL (add16 s.hl (s.pair p) s.flags).1).setFlags
      (add16 s.hl (s.pair p) s.flags).2).report (s.count (.addHL p))) := rfl

theorem execAddSPe_eq (e : Byte) : execAddSPe e s =
    .next (((s.setPair .SP (addsp s.params.spDisp s.sp e s.flags).1).setFlags
      (addsp s.params.spDisp s.sp e s.flags).2).report (s.count .addSP)) := rfl

theorem execLdHLSPe_eq (e : Byte) : execLdHLSPe e s =
    .next (((s.setPair .HL (addsp s.params.spDisp s.sp e s.flags).1).setFlags
      (addsp s.params.spDisp s.sp e s.flags).2).report (s.count .ldHLSP)) := rfl

theorem pop_eq (q : StackPair) : pop q s =
    .next ((s.pop16.2.setStackPair q (wordAt s s.sp)).report (s.count (.pop q))) := rfl

theorem execRet_eq : execRet s =
    .next ((s.pop16.2.jump (wordAt s s.sp)).report (s.count .ret)) := rfl

theorem retCond_eq (cc : Cond) : retCond cc s =
    .next (if s.flags.holds cc = true
      then (s.pop16.2.jump (wordAt s s.sp)).report (s.count (.retCond cc true))
      else s.report (s.count (.retCond cc false))) := by
  unfold retCond; split <;> simp_all

theorem jpCond_eq (cc : Cond) (nn : Word) : jpCond cc nn s =
    .next (if s.flags.holds cc = true then (s.jump nn).report (s.count (.jpCond cc true))
      else s.report (s.count (.jpCond cc false))) := by
  unfold jpCond; split <;> simp_all

theorem jrCond_eq (cc : Cond) (e : Byte) : jrCond cc e s =
    .next (if s.flags.holds cc = true then (s.jump (s.relTarget e)).report (s.count (.jrCond cc true))
      else s.report (s.count (.jrCond cc false))) := by
  unfold jrCond; split <;> simp_all

theorem callCond_eq (cc : Cond) (nn : Word) : callCond cc nn s =
    .next (if s.flags.holds cc = true then ((s.push16 s.pc).jump nn).report (s.count (.callCond cc true))
      else s.report (s.count (.callCond cc false))) := by
  unfold callCond; split <;> simp_all

theorem accRot_eq (op : RotOp) : accRot op s =
    .next (((s.setReg .A (rotateA op s.regs.a s.flags.c).1).setFlags
      (rotateA op s.regs.a s.flags.c).2).report (s.count (.accRot op))) := rfl

theorem execDaa_eq : execDaa s =
    .next (((s.setReg .A (daa s.regs.a s.flags).1).setFlags (daa s.regs.a s.flags).2).report
      (s.count .daa)) := rfl

theorem shift_eq (op : ShiftOp) (x : Operand) : shift op x s =
    .next ((((s.readOperand x).2.writeOperand x (shift8 op (operandValue s x) s.flags.c).1).setFlags
      (shift8 op (operandValue s x) s.flags.c).2).report (s.count (.shift op x))) := by
  simp only [← State.readOperand_val]; rfl

theorem bitTest_eq (b : BitNo) (x : Operand) : bitTest b x s =
    .next (((s.readOperand x).2.setFlags (bit8 b (operandValue s x) s.flags)).report
      (s.count (.bit b x))) := by
  simp only [← State.readOperand_val]; rfl

theorem bitRes_eq (b : BitNo) (x : Operand) : bitRes b x s =
    .next (((s.readOperand x).2.writeOperand x (res8 b (operandValue s x))).report
      (s.count (.res b x))) := by
  simp only [← State.readOperand_val]; rfl

theorem bitSet_eq (b : BitNo) (x : Operand) : bitSet b x s =
    .next (((s.readOperand x).2.writeOperand x (set8 b (operandValue s x))).report
      (s.count (.set b x))) := by
  simp only [← State.readOperand_val]; rfl

end Sys2Proof.Machine
end

