-- ==== Sys2Proof/Laws/Flags.lean ====
section
/-! SUPPORT. The flag and ALU functions in the arithmetic of bit vectors. -/

namespace Sys2Proof.Machine

theorem and_15 (a : Byte) : (a &&& 15).toNat = a.toNat % 16 := by
  rw [BitVec.toNat_and]; exact Nat.and_two_pow_sub_one_eq_mod a.toNat 4

theorem and_15_word (a : Word) : (a &&& 15).toNat = a.toNat % 16 := by
  rw [BitVec.toNat_and]; exact Nat.and_two_pow_sub_one_eq_mod a.toNat 4

theorem and_255_word (a : Word) : (a &&& 255).toNat = a.toNat % 256 := by
  rw [BitVec.toNat_and]; exact Nat.and_two_pow_sub_one_eq_mod a.toNat 8

theorem and_4095_word (a : Word) : (a &&& 0x0FFF).toNat = a.toNat % 4096 := by
  rw [BitVec.toNat_and]; exact Nat.and_two_pow_sub_one_eq_mod a.toNat 12

theorem inc8_eq (a : Byte) (f : Flags) :
    inc8 a f = (a + 1, { z := a + 1 == 0, n := false, h := a &&& 15 == 15, c := f.c }) := by
  have h : (a.toNat % 16 == 15) = (a &&& 15 == 15) := by
    rw [Bool.eq_iff_iff]; simp only [beq_iff_eq]; rw [← BitVec.toNat_inj, and_15]; rfl
  simp only [inc8, wrap8_add_one, h]

theorem dec8_eq (a : Byte) (f : Flags) :
    dec8 a f = (a - 1, { z := a - 1 == 0, n := true, h := a &&& 15 == 0, c := f.c }) := by
  have h : (a.toNat % 16 == 0) = (a &&& 15 == 0) := by
    rw [Bool.eq_iff_iff]; simp only [beq_iff_eq]; rw [← BitVec.toNat_inj, and_15]; rfl
  simp only [dec8, wrap8_sub_one, h]

theorem inc16_eq (a : Word) : inc16 a = a + 1 := wrap16_add_one a

theorem dec16_eq (a : Word) : dec16 a = a - 1 := wrap16_sub_one a

theorem add16_eq (a b : Word) (f : Flags) :
    add16 a b f =
      (a + b,
        { z := f.z, n := false, h := decide ((a &&& 0x0FFF).toNat + (b &&& 0x0FFF).toNat > 0x0FFF),
          c := decide (a.toNat + b.toNat > 0xFFFF) }) := by
  have h : wrap16 ((a.toNat + b.toNat : Nat) : Int) = a + b := by
    apply BitVec.eq_of_toNat_eq; rw [wrap16_toNat, BitVec.toNat_add]; omega
  simp only [add16, h, and_4095_word]

theorem sext16_eq (e : Byte) : sext16 e = (e.signExtend 16).toNat := by
  have h : ∀ e : Byte, sext16 e = (e.signExtend 16).toNat := by decide
  exact h e

theorem addsp_eq (m : SpDispFlags) (v : Word) (e : Byte) (f : Flags) :
    addsp m v e f =
      (v + e.signExtend 16,
        match m with
        | .canonical =>
          { z := false, n := false, h := decide ((v &&& 15).toNat + (e &&& 15).toNat > 15),
            c := decide ((v &&& 255).toNat + e.toNat > 255) }
        | .docLiteral =>
          { z := f.z, n := false,
            h := decide ((v &&& 0x0FFF).toNat + (e.signExtend 16 &&& 0x0FFF).toNat > 0x0FFF),
            c := decide (v.toNat + (e.signExtend 16).toNat > 0xFFFF) }) := by
  cases m <;>
    simp only [addsp, displace_eq, addspCanonical, addspDocLiteral, and_15, and_15_word, and_255_word, and_4095_word,
      sext16_eq]

theorem pow_bitIndex (b : BitNo) : wrap8 (2 ^ bitIndex b : Nat) = 1#8 <<< bitIndex b := by
  cases b <;> rfl

theorem compl_bitIndex (b : BitNo) : wrap8 (255 - (2 ^ bitIndex b : Nat)) = ~~~ (1#8 <<< bitIndex b) := by
  cases b <;> rfl

theorem res8_eq (b : BitNo) (a : Byte) : res8 b a = a &&& ~~~ (1#8 <<< bitIndex b) := by
  rw [res8, compl_bitIndex]

theorem set8_eq (b : BitNo) (a : Byte) : set8 b a = a ||| 1#8 <<< bitIndex b := by
  rw [set8, pow_bitIndex]

/-- The flag byte as a number. -/
theorem Flags.toByte_toNat (f : Flags) :
    f.toByte.toNat = bit f.z * 128 + bit f.n * 64 + bit f.h * 32 + bit f.c * 16 := by
  obtain ⟨z, n, h, c⟩ := f
  cases z <;> cases n <;> cases h <;> cases c <;> rfl

theorem Flags.ofByte_toByte (f : Flags) : Flags.ofByte f.toByte = f := by
  obtain ⟨z, n, h, c⟩ := f
  cases z <;> cases n <;> cases h <;> cases c <;> rfl

end Sys2Proof.Machine
end

