-- ==== Sys2Proof/Laws/Step.lean ====
section
/-! SUPPORT. What the parts of a step do: the interrupt check, interrupt entry, the opcode and operand fetch, and the step where
it idles, enters an interrupt or runs an instruction. -/

namespace Sys2Proof.Machine

variable (s : State)

/-! ## Bytes, cells, regions -/

theorem word_and (hi lo : Byte) : word hi (lo &&& 0xF0) = word hi lo &&& 0xFFF0 := by
  have e : (0xFFF0 : Word) = word 0xFF 0xF0 := rfl
  rw [e]; unfold word
  ext i hi'
  simp only [BitVec.getElem_and, BitVec.getElem_append]
  split
  · rfl
  · have : i - 8 < 8 := by omega
    have h : ∀ j (h : j < 8), (0xFF : Byte)[j]'h = true := by decide
    rw [h, Bool.and_true]

theorem regionAt_some (rs : List Region) (a : Nat) (r : Region) (h : regionAt rs a = some r) :
    r.base ≤ a ∧ a < r.base + r.size := by
  induction rs with
  | nil => cases h
  | cons q qs ih =>
    unfold regionAt at h
    split at h
    · cases h; assumption
    · exact ih h

/-- A write where writes are not kept changes nothing. -/
theorem State.store_readOnly (a : Word) (v : Byte) (h : writable s.params.regions a = false) : s.store a v = s := by
  simp [State.store, storeCell, h, writeDevice_own _ _ _ _ (external_of_readOnly _ _ h)]

/-- An address whose cell is in a read-only region keeps its byte whatever is written. -/
theorem State.peek_store_readOnly (a b : Word) (v : Byte) (h : writable s.params.regions b = false) :
    (s.store a v).peek b = s.peek b := by
  by_cases e : cellOf s.params.regions b = cellOf s.params.regions a
  · rw [State.store_readOnly s a v (by rw [← writable_congr _ _ _ e, h])]
  · exact State.peek_store_other s a b v (external_of_readOnly _ _ h) e

/-! ## The interrupt check -/

/-- Where the core samples requests, the reads of IE and IF have no side effect (R441). -/
theorem State.afterRead_request (h : s.params.irq = .canonical) :
    s.afterRead addrIE = s ∧ s.afterRead addrIF = s := by
  simp [State.afterRead, readDevice_request _ _ h]

theorem State.samplePending_eq (h : s.params.irq = .canonical) : s.samplePending =
    (pendingRequests s, s.peek 0xFF0F,
      { s with bus := s.bus ++ [.read 0xFFFF (s.peek 0xFFFF), .read 0xFF0F (s.peek 0xFF0F)] }) := by
  have e (b : List BusAccess) : ({ s with bus := b } : State).afterRead addrIF = { s with bus := b } :=
    (State.afterRead_request { s with bus := b } h).2
  simp only [State.samplePending, State.busRead, (State.afterRead_request s h).1, e, List.append_assoc, List.cons_append,
    List.nil_append]
  rfl

/-- The state in which an instruction runs, or an interrupt is entered, after the interrupt check. -/
def State.checked (s : State) : State := { s with cycles := 0, bus := checkReads s }

theorem prepare_canonical (hp : s.params.profile = .full) (hi : s.params.irq = .canonical)
    (hs : s.stopped = false) :
    prepare s.beginStep =
      let t : State := { s.checked with halted := s.halted && pendingRequests s == 0 }
      if s.ime = true ∧ pendingRequests s ≠ 0 then
        .done (t.interruptEntry (pendingRequests s) (s.peek 0xFF0F))
      else if t.halted = true then t.idle .idleHalted else .run t := by
  simp only [prepare, State.beginStep_params, hp, State.beginStep_stopped, hs, Bool.false_eq_true, if_false, hi,
    checkInterrupts, State.samplePending_eq s.beginStep hi]
  simp only [State.checked, checkReads, hp, hi, hs, and_self, if_true]
  rfl

theorem prepare_noIrq (hp : s.params.profile = .full) (hi : s.params.irq = .none) (hs : s.stopped = false) :
    prepare s.beginStep = if s.halted = true then s.checked.idle .idleHalted else .run s.checked := by
  have e : s.beginStep = s.checked := by simp [State.checked, checkReads, hi, State.beginStep]
  rw [e, prepare]
  have hp' : s.checked.params.profile = .full := hp
  have hi' : s.checked.params.irq = .none := hi
  have hs' : s.checked.stopped = false := hs
  simp only [hp', hs', Bool.false_eq_true, if_false, hi']
  rfl

theorem prepare_core (hp : s.params.profile = .core) : prepare s.beginStep = .run s.checked := by
  simp only [prepare, State.beginStep_params, hp]
  simp [State.checked, checkReads, hp, State.beginStep]

theorem prepare_stopped (hp : s.params.profile = .full) (hs : s.stopped = true) :
    prepare s.beginStep = s.beginStep.idle .idleStopped := by
  simp [prepare, hp, hs]

theorem prepare_runs (h : RunsNext s) : prepare s.beginStep = .run s.checked := by
  obtain ⟨hs, hh, hi⟩ := h
  cases hp : s.params.profile with
  | core => exact prepare_core s hp
  | full =>
    cases hq : s.params.irq with
    | none => rw [prepare_noIrq s hp hq hs, hh]; rfl
    | canonical =>
      rw [prepare_canonical s hp hq hs]
      simp only [hh, Bool.false_and, Bool.false_eq_true, if_false]
      rw [if_neg fun c => c.2 (hi hp hq c.1)]
      simp [State.checked, hh]

/-- Where the core runs an instruction, a step is points 4 to 6 of R443. -/
theorem step_runs (h : RunsNext s) : step s = finishStep s (runInstruction s.checked) := by
  simp only [step, prepare_runs s h]

/-! ## The fetch -/

theorem State.fetchOpcode_val : s.fetchOpcode.1 = s.peek s.pc := rfl

theorem State.fetchOpcode_advance (h : s.haltBug = false) : s.fetchOpcode.2 =
    { s.afterRead s.pc with fetchedAt := s.pc, pc := s.pc + 1, bus := s.bus ++ [.read s.pc (s.peek s.pc)] } := by
  simp [State.fetchOpcode, State.heldBack, h, State.busRead]

theorem State.fetchOpcode_heldBack (hp : s.params.profile = .full) (h : s.haltBug = true) : s.fetchOpcode.2 =
    { s.afterRead s.pc with fetchedAt := s.pc, haltBug := false, bus := s.bus ++ [.read s.pc (s.peek s.pc)] } := by
  simp [State.fetchOpcode, State.heldBack, h, hp, State.busRead]

theorem fetchInstr_refuse (h : s.params.cbExt = .refuse) : fetchInstr 0xCB s = (.prefixCb, s) := by
  simp [fetchInstr, h]

theorem fetchInstr_count (op : Byte) (h : s.params.cbExt = .refuse → op ≠ 0xCB) :
    fetchInstr op s =
      match operandCount op with
      | 0 => (decodeMain op 0 0, s)
      | 1 => (decodeMain op (operandByte s) 0, afterOperand s)
      | _ => (decodeMain op (operandByte s) (s.peekAfter s.pc (s.pc + 1)), afterOperands s) := by
  have : ¬(op = 0xCB ∧ s.params.cbExt = .refuse) := fun c => h c.2 c.1
  rw [fetchInstr, if_neg this]
  generalize operandCount op = n
  match n with
  | 0 => rfl
  | 1 => rfl
  | _ + 2 => exact Prod.ext rfl (State.fetch8_fetch8_2 s)

end Sys2Proof.Machine
end

