-- ==== Sys2Proof/Laws/Frame.lean ====
section
/-! SUPPORT. What no instruction but a few changes: the bits of R40, the parameters, read-only memory, the canonical form. Every
meaning is quiet in this sense but HALT, STOP, DI, EI and RETI, and of those each is said what it does. -/

namespace Sys2Proof.Laws

open Sys2Proof.Machine

/-- From `s` to `t` the bits of R40, the parameters and the fetch latch are kept, an address of a read-only region reads as
before, and a memory in canonical form stays so. -/
structure Quiet (s t : State) : Prop where
  ime : t.ime = s.ime
  eiDelay : t.eiDelay = s.eiDelay
  halted : t.halted = s.halted
  stopped : t.stopped = s.stopped
  haltBug : t.haltBug = s.haltBug
  params : t.params = s.params
  fetchedAt : t.fetchedAt = s.fetchedAt
  readOnly : ∀ a, writable s.params.regions a = false → t.peek a = s.peek a
  wf : Memory.wf s.mem = true → Memory.wf t.mem = true

variable {s t u : State}

theorem Quiet.trans (h : Quiet s t) (k : Quiet t u) : Quiet s u where
  ime := k.ime.trans h.ime
  eiDelay := k.eiDelay.trans h.eiDelay
  halted := k.halted.trans h.halted
  stopped := k.stopped.trans h.stopped
  haltBug := k.haltBug.trans h.haltBug
  params := k.params.trans h.params
  fetchedAt := k.fetchedAt.trans h.fetchedAt
  readOnly a ha := (k.readOnly a (by rw [h.params]; exact ha)).trans (h.readOnly a ha)
  wf w := k.wf (h.wf w)

theorem Quiet.refl (s : State) : Quiet s s :=
  ⟨rfl, rfl, rfl, rfl, rfl, rfl, rfl, fun _ _ => rfl, id⟩

theorem Quiet.setReg (h : Quiet s t) (r : Reg) (v : Byte) : Quiet s (t.setReg r v) :=
  h.trans ⟨by simp, by simp, by simp, by simp, by simp, by simp, by simp, by simp, by simp⟩
theorem Quiet.setPair (h : Quiet s t) (p : Pair) (v : Word) : Quiet s (t.setPair p v) :=
  h.trans ⟨by simp, by simp, by simp, by simp, by simp, by simp, by simp, by simp, by simp⟩
theorem Quiet.setStackPair (h : Quiet s t) (q : StackPair) (v : Word) : Quiet s (t.setStackPair q v) :=
  h.trans ⟨by simp, by simp, by simp, by simp, by simp, by simp, by simp, by simp, by simp⟩
theorem Quiet.setFlags (h : Quiet s t) (f : Flags) : Quiet s (t.setFlags f) :=
  h.trans ⟨rfl, rfl, rfl, rfl, rfl, rfl, rfl, fun _ _ => rfl, id⟩
theorem Quiet.jump (h : Quiet s t) (a : Word) : Quiet s (t.jump a) :=
  h.trans ⟨rfl, rfl, rfl, rfl, rfl, rfl, rfl, fun _ _ => rfl, id⟩
theorem Quiet.report (h : Quiet s t) (n : Nat) : Quiet s (t.report n) :=
  h.trans ⟨rfl, rfl, rfl, rfl, rfl, rfl, rfl, fun _ _ => rfl, id⟩
theorem Quiet.busRead (h : Quiet s t) (a : Word) : Quiet s (t.busRead a).2 :=
  h.trans ⟨rfl, rfl, rfl, rfl, rfl, rfl, rfl,
    fun b hb => State.peek_congr_own t (t.busRead a).2 rfl rfl b (external_of_readOnly _ _ hb), id⟩
theorem Quiet.fetch8 (h : Quiet s t) : Quiet s t.fetch8.2 :=
  h.trans ⟨rfl, rfl, rfl, rfl, rfl, rfl, rfl,
    fun a ha => State.peek_congr_own t t.fetch8.2 rfl rfl a (external_of_readOnly _ _ ha), id⟩
theorem Quiet.pop16 (h : Quiet s t) : Quiet s t.pop16.2 :=
  h.trans ⟨rfl, rfl, rfl, rfl, rfl, rfl, rfl,
    fun a ha => State.peek_congr_own t t.pop16.2 rfl rfl a (external_of_readOnly _ _ ha), id⟩
theorem Quiet.busWrite (h : Quiet s t) (a : Word) (v : Byte) : Quiet s (t.busWrite a v) :=
  h.trans ⟨by simp, by simp, by simp, by simp, by simp, by simp, by simp,
    fun b hb => by rw [State.peek_busWrite, State.peek_store_readOnly _ _ _ _ hb],
    fun w => by rw [State.busWrite_mem]; exact State.mem_store_wf t a v w⟩
theorem Quiet.push16 (h : Quiet s t) (v : Word) : Quiet s (t.push16 v) :=
  h.trans ⟨by simp, by simp, by simp, by simp, by simp, by simp, by simp,
    fun b hb => by
      rw [State.peek_push16, State.peek_store_readOnly _ _ _ _ (by simpa using hb),
        State.peek_store_readOnly _ _ _ _ hb],
    State.mem_push16_wf t v⟩
theorem Quiet.readOperand (h : Quiet s t) (x : Operand) : Quiet s (t.readOperand x).2 := by
  cases x with
  | reg r => exact h
  | indHL => exact h.busRead _
theorem Quiet.writeOperand (h : Quiet s t) (x : Operand) (v : Byte) : Quiet s (t.writeOperand x v) := by
  cases x with
  | reg r => exact h.setReg r v
  | indHL => exact h.busWrite _ v
theorem Quiet.formAfter (h : Quiet s t) (m : AddrForm) : Quiet s (t.formAfter m) := by
  cases m
  case indHLI => exact h.setPair .HL _
  case indHLD => exact h.setPair .HL _
  all_goals exact h

/-- The sub-opcode's fields select what the decoder selects. -/
theorem runCb_eq (sub : Byte) (s : State) : runCb sub s = exec (decodeCb sub) s := by
  unfold runCb decodeCb
  generalize fieldX sub = x
  match x with
  | 0 => exact (exec_shift ..).symm
  | 1 => exact (exec_bit ..).symm
  | 2 => exact (exec_res ..).symm
  | _ + 3 => exact (exec_set ..).symm

/-- PREFIX CB under CB_EXT = table is the instruction the sub-opcode selects, its byte fetched. -/
theorem exec_prefixCb_table (s : State) (h : s.params.cbExt = .table) :
    exec .prefixCb s = exec (decodeCb (operandByte s)) (afterOperand s) := by
  show execPrefixCb s = _
  rw [execPrefixCb, h]
  exact runCb_eq _ _

theorem exec_prefixCb_refuse (s : State) (h : s.params.cbExt = .refuse) :
    exec .prefixCb s = .refused (.cbExtensionExternal 0xCB) := by
  show execPrefixCb s = _
  rw [execPrefixCb, h]

/-- The instructions that change a bit of R40, and the two that are not an instruction of their own. -/
def loud : Instr → Bool
  | .halt | .di | .ei | .reti | .prefixCb => true
  | .stop _ => true
  | .undefined _ => true
  | _ => false

/-- Every other instruction completes, in every state, and is quiet. -/
theorem exec_quiet (i : Instr) (s : State) : loud i = false → ∃ t, exec i s = .next t ∧ Quiet s t := by
  have q := Quiet.refl s
  refine byShape (P := fun i => loud i = false → ∃ t, exec i s = .next t ∧ Quiet s t)
    ?_ ?_ ?_ ?_ ?_ ?_ ?_ ?_ ?_ ?_ ?_ ?_ ?_ ?_ ?_ ?_ ?_ ?_ ?_ ?_ ?_ ?_ ?_ ?_ ?_ ?_ ?_ ?_ ?_ ?_ ?_ ?_ ?_ ?_ ?_ ?_ ?_ ?_ ?_ ?_ ?_ ?_
      ?_ ?_ ?_ ?_ ?_ ?_ i
  case refine_1 => intro d r _; rw [exec_ldRegReg]; exact ⟨_, rfl, (q.setReg _ _).report _⟩
  case refine_2 => intro d n _; rw [exec_ldRegImm]; exact ⟨_, rfl, (q.setReg _ _).report _⟩
  case refine_3 => intro d _; rw [exec_ldRegIndHL, ldRegIndHL_eq]; exact ⟨_, rfl, ((q.busRead _).setReg _ _).report _⟩
  case refine_4 => intro r _; rw [exec_ldIndHLReg]; exact ⟨_, rfl, (q.busWrite _ _).report _⟩
  case refine_5 => intro p nn _; rw [exec_ldPairImm]; exact ⟨_, rfl, (q.setPair _ _).report _⟩
  case refine_6 =>
    intro m _; rw [exec_loadA, loadA_eq]; exact ⟨_, rfl, (((q.busRead _).setReg _ _).formAfter _).report _⟩
  case refine_7 => intro m _; rw [exec_storeA]; exact ⟨_, rfl, ((q.busWrite _ _).formAfter _).report _⟩
  case refine_8 =>
    intro x _; rw [exec_inc, inc_eq]
    exact ⟨_, rfl, (((q.readOperand _).writeOperand _ _).setFlags _).report _⟩
  case refine_9 =>
    intro x _; rw [exec_dec, dec_eq]
    exact ⟨_, rfl, (((q.readOperand _).writeOperand _ _).setFlags _).report _⟩
  case refine_10 => intro p _; rw [exec_incPair]; exact ⟨_, rfl, (q.setPair _ _).report _⟩
  case refine_11 => intro p _; rw [exec_decPair]; exact ⟨_, rfl, (q.setPair _ _).report _⟩
  case refine_12 => intro p _; rw [exec_addHL, addHL_eq]; exact ⟨_, rfl, ((q.setPair _ _).setFlags _).report _⟩
  case refine_13 =>
    intro op x _; rw [exec_alu, alu_eq]
    exact ⟨_, rfl, (((q.readOperand _).setReg _ _).setFlags _).report _⟩
  case refine_14 =>
    intro op n _; rw [exec_aluImm, aluImm_eq]; exact ⟨_, rfl, ((q.setReg _ _).setFlags _).report _⟩
  case refine_15 => intro p _; rw [exec_push]; exact ⟨_, rfl, (q.push16 _).report _⟩
  case refine_16 => intro p _; rw [exec_pop, pop_eq]; exact ⟨_, rfl, (q.pop16.setStackPair _ _).report _⟩
  case refine_17 =>
    intro cc nn _; rw [exec_jpCond, jpCond_eq]; refine ⟨_, rfl, ?_⟩
    split
    · exact (q.jump _).report _
    · exact q.report _
  case refine_18 =>
    intro cc e _; rw [exec_jrCond, jrCond_eq]; refine ⟨_, rfl, ?_⟩
    split
    · exact (q.jump _).report _
    · exact q.report _
  case refine_19 =>
    intro cc nn _; rw [exec_callCond, callCond_eq]; refine ⟨_, rfl, ?_⟩
    split
    · exact ((q.push16 _).jump _).report _
    · exact q.report _
  case refine_20 =>
    intro cc _; rw [exec_retCond, retCond_eq]; refine ⟨_, rfl, ?_⟩
    split
    · exact (q.pop16.jump _).report _
    · exact q.report _
  case refine_21 => intro r _; rw [exec_rst]; exact ⟨_, rfl, ((q.push16 _).jump _).report _⟩
  case refine_22 => intro op _; rw [exec_accRot, accRot_eq]; exact ⟨_, rfl, ((q.setReg _ _).setFlags _).report _⟩
  case refine_23 =>
    intro op x _; rw [exec_shift, shift_eq]
    exact ⟨_, rfl, (((q.readOperand _).writeOperand _ _).setFlags _).report _⟩
  case refine_24 =>
    intro b x _; rw [exec_bit, bitTest_eq]; exact ⟨_, rfl, ((q.readOperand _).setFlags _).report _⟩
  case refine_25 =>
    intro b x _; rw [exec_res, bitRes_eq]; exact ⟨_, rfl, ((q.readOperand _).writeOperand _ _).report _⟩
  case refine_26 =>
    intro b x _; rw [exec_set, bitSet_eq]; exact ⟨_, rfl, ((q.readOperand _).writeOperand _ _).report _⟩
  case refine_27 => intro nn _; exact ⟨_, rfl, ((q.busWrite _ _).busWrite _ _).report _⟩
  case refine_28 => intro p h; cases h
  case refine_29 => intro e _; exact ⟨_, rfl, (q.jump _).report _⟩
  case refine_30 => intro n _; exact ⟨_, rfl, (q.busWrite _ _).report _⟩
  case refine_31 => intro n _; exact ⟨_, rfl, (q.jump _).report _⟩
  case refine_32 => intro n _; exact ⟨_, rfl, ((q.push16 _).jump _).report _⟩
  case refine_33 => intro p h; cases h
  case refine_34 => intro e _; exact ⟨_, execAddSPe_eq s e, ((q.setPair _ _).setFlags _).report _⟩
  case refine_35 => intro e _; exact ⟨_, execLdHLSPe_eq s e, ((q.setPair _ _).setFlags _).report _⟩
  case refine_36 => intro _; exact ⟨_, rfl, q.report _⟩
  case refine_37 => intro _; exact ⟨_, execDaa_eq s, ((q.setReg _ _).setFlags _).report _⟩
  case refine_38 => intro _; exact ⟨_, rfl, ((q.setReg _ _).setFlags _).report _⟩
  case refine_39 => intro _; exact ⟨_, rfl, (q.setFlags _).report _⟩
  case refine_40 => intro _; exact ⟨_, rfl, (q.setFlags _).report _⟩
  case refine_41 => intro h; cases h
  case refine_42 => intro _; exact ⟨_, execRet_eq s, (q.pop16.jump _).report _⟩
  case refine_43 => intro h; cases h
  case refine_44 => intro h; cases h
  case refine_45 => intro _; exact ⟨_, rfl, (q.jump _).report _⟩
  case refine_46 => intro h; cases h
  case refine_47 => intro _; exact ⟨_, rfl, (q.setPair _ _).report _⟩
  case refine_48 => intro h; cases h

end Sys2Proof.Laws
end

