-- ==== Sys2Proof/Laws/Decode.lean ====
section
/-! SUPPORT. The opcode byte and the instruction it decodes to. -/

namespace Sys2Proof.Laws

open Sys2Proof.Machine

theorem decodeMain_head_lit (n : Fin 256) (b1 b2 : Byte) (h : n ≠ 203) :
    (encode (decodeMain (BitVec.ofFin n) b1 b2)).head? = some (BitVec.ofFin n) := by
  fin_cases n <;> first | exact absurd rfl h | rfl

theorem encode_shift_head (op : ShiftOp) (x : Operand) : (encode (Row.shift op x)).head? = some 0xCB := by
  rcases op with (_ | _ | _ | _) | _ | _ | _ | _ <;> rcases x with (_ | _ | _ | _ | _ | _ | _) | _ <;> rfl
theorem encode_bit_head (b : BitNo) (x : Operand) : (encode (Row.bit b x)).head? = some 0xCB := by
  cases b <;> rcases x with (_ | _ | _ | _ | _ | _ | _) | _ <;> rfl
theorem encode_res_head (b : BitNo) (x : Operand) : (encode (Row.res b x)).head? = some 0xCB := by
  cases b <;> rcases x with (_ | _ | _ | _ | _ | _ | _) | _ <;> rfl
theorem encode_set_head (b : BitNo) (x : Operand) : (encode (Row.set b x)).head? = some 0xCB := by
  cases b <;> rcases x with (_ | _ | _ | _ | _ | _ | _) | _ <;> rfl

theorem encode_decodeCb_head (sub : Byte) : (encode (decodeCb sub)).head? = some 0xCB := by
  unfold decodeCb
  generalize fieldX sub = x
  match x with
  | 0 => exact encode_shift_head _ _
  | 1 => exact encode_bit_head _ _
  | 2 => exact encode_res_head _ _
  | _ + 3 => exact encode_set_head _ _

theorem decodeMain_CB (b1 b2 : Byte) : decodeMain 0xCB b1 b2 = decodeCb b1 := rfl

/-- The encoding of what an opcode byte decodes to begins with that byte. -/
theorem decodeMain_head (op b1 b2 : Byte) : (encode (decodeMain op b1 b2)).head? = some op := by
  by_cases h : op = 0xCB
  · subst h; rw [decodeMain_CB]; exact encode_decodeCb_head b1
  · exact decodeMain_head_lit op.toFin b1 b2 fun e => h (by
      apply BitVec.eq_of_toNat_eq; exact congrArg Fin.val e)

/-- What the fetch decodes an opcode byte to begins with that byte. -/
theorem fetchInstr_head (op : Byte) (s : State) : (encode (fetchInstr op s).1).head? = some op := by
  unfold fetchInstr
  split
  · rename_i h; rw [h.1]; rfl
  · split <;> exact decodeMain_head _ _ _

theorem loud_shift (op : ShiftOp) (x : Operand) : loud (Row.shift op x) = false := by
  rcases op with (_ | _ | _ | _) | _ | _ | _ | _ <;> rcases x with (_ | _ | _ | _ | _ | _ | _) | _ <;> rfl
theorem loud_bit (b : BitNo) (x : Operand) : loud (Row.bit b x) = false := by
  cases b <;> rcases x with (_ | _ | _ | _ | _ | _ | _) | _ <;> rfl
theorem loud_res (b : BitNo) (x : Operand) : loud (Row.res b x) = false := by
  cases b <;> rcases x with (_ | _ | _ | _ | _ | _ | _) | _ <;> rfl
theorem loud_set (b : BitNo) (x : Operand) : loud (Row.set b x) = false := by
  cases b <;> rcases x with (_ | _ | _ | _ | _ | _ | _) | _ <;> rfl

/-- Every operation of the CB sub-table is one of its four shapes. -/
theorem decodeCb_cases (sub : Byte) :
    (∃ op x, decodeCb sub = Row.shift op x) ∨ (∃ b x, decodeCb sub = Row.bit b x) ∨
    (∃ b x, decodeCb sub = Row.res b x) ∨ (∃ b x, decodeCb sub = Row.set b x) := by
  unfold decodeCb
  generalize fieldX sub = x
  match x with
  | 0 => exact .inl ⟨_, _, rfl⟩
  | 1 => exact .inr (.inl ⟨_, _, rfl⟩)
  | 2 => exact .inr (.inr (.inl ⟨_, _, rfl⟩))
  | _ + 3 => exact .inr (.inr (.inr ⟨_, _, rfl⟩))

/-- No operation of the CB sub-table is loud. -/
theorem loud_decodeCb (sub : Byte) : loud (decodeCb sub) = false := by
  obtain ⟨_, _, h⟩ | ⟨_, _, h⟩ | ⟨_, _, h⟩ | ⟨_, _, h⟩ := decodeCb_cases sub <;> rw [h]
  · exact loud_shift _ _
  · exact loud_bit _ _
  · exact loud_res _ _
  · exact loud_set _ _

/-- Everything an instruction that completes can do to the bits of R40: nothing, or what HALT, STOP, DI, EI or RETI
does. -/
theorem exec_cases {i : Instr} {s t : State} (h : exec i s = .next t) :
    Quiet s t ∨
    (i = .halt ∧ ∃ bus n, t = { s with halted := true, bus := bus, cycles := n }) ∨
    (i = .halt ∧ s.params.irq = .canonical ∧ s.params.haltBug = .canonical ∧
      ∃ bus n, t = { s with haltBug := true, bus := bus, cycles := n }) ∨
    ((∃ pad, i = .stop pad) ∧ s.params.stop = .stopped ∧ ∃ n, t = { s with stopped := true, cycles := n }) ∨
    (i = .di ∧ ∃ n, t = { s with ime := false, eiDelay := false, cycles := n }) ∨
    (i = .ei ∧ ∃ n, t = { s with eiDelay := true, cycles := n }) ∨
    (i = .reti ∧ ∃ pc sp device bus n,
      t = { s with pc := pc, sp := sp, ime := true, eiDelay := false, device := device, bus := bus, cycles := n }) := by
  cases hl : loud i with
  | false =>
    obtain ⟨u, hu, q⟩ := exec_quiet i s hl
    rw [hu] at h; cases h; exact .inl q
  | true =>
    cases i <;> cases hl
    case true.stop.refl pad =>
      change execStop pad s = _ at h
      unfold execStop at h
      split at h <;> cases h
      exact .inr (.inr (.inr (.inl ⟨⟨_, rfl⟩, ‹_›, _, rfl⟩)))
    case true.undefined.refl => cases h
    case true.halt.refl =>
      change execHalt s = _ at h
      unfold execHalt at h
      split at h
      · cases h; exact .inr (.inl ⟨rfl, _, _, rfl⟩)
      · rename_i hi
        simp only [State.samplePending_eq s hi] at h
        split at h
        · split at h <;> cases h
          exact .inr (.inr (.inl ⟨rfl, hi, ‹_›, _, _, rfl⟩))
        · cases h; exact .inr (.inl ⟨rfl, _, _, rfl⟩)
    case true.prefixCb.refl =>
      cases hc : s.params.cbExt with
      | refuse => rw [exec_prefixCb_refuse s hc] at h; cases h
      | table =>
        rw [exec_prefixCb_table s hc] at h
        obtain ⟨u, hu, q⟩ := exec_quiet _ (afterOperand s) (loud_decodeCb (operandByte s))
        rw [hu] at h; cases h
        exact .inl ((Quiet.refl s).fetch8.trans q)
    case true.reti.refl =>
      cases h
      exact .inr (.inr (.inr (.inr (.inr (.inr ⟨rfl, _, _, _, _, _, rfl⟩)))))
    case true.di.refl => cases h; exact .inr (.inr (.inr (.inr (.inl ⟨rfl, _, rfl⟩))))
    case true.ei.refl => cases h; exact .inr (.inr (.inr (.inr (.inr (.inl ⟨rfl, _, rfl⟩)))))

/-- No instruction changes the parameters. -/
theorem exec_params {i : Instr} {s t : State} (h : exec i s = .next t) : t.params = s.params := by
  obtain q | ⟨_, _, _, e⟩ | ⟨_, _, _, _, _, e⟩ | ⟨_, _, _, e⟩ | ⟨_, _, e⟩ | ⟨_, _, e⟩ | ⟨_, _, _, _, _, _, e⟩ :=
    exec_cases h
  · exact q.params
  all_goals rw [e]

/-- Only UNDEFINED faults, with the state it was given. -/
theorem exec_fault {i : Instr} {s : State} {f : Fault} (h : exec i s = .fault f) :
    ∃ op, i = .undefined op ∧ f = .undefinedOpcode op s.fetchedAt s := by
  cases hl : loud i with
  | false =>
    obtain ⟨u, hu, _⟩ := exec_quiet i s hl
    rw [hu] at h; cases h
  | true =>
    cases i <;> cases hl
    case true.undefined.refl op => cases h; exact ⟨op, rfl, rfl⟩
    case true.stop.refl pad =>
      change execStop pad s = _ at h
      unfold execStop at h
      split at h <;> cases h
    case true.halt.refl =>
      change execHalt s = _ at h
      unfold execHalt at h
      split at h
      · cases h
      · rename_i hi
        simp only [State.samplePending_eq s hi] at h
        split at h
        · split at h <;> cases h
        · cases h
    case true.prefixCb.refl =>
      cases hc : s.params.cbExt with
      | refuse => rw [exec_prefixCb_refuse s hc] at h; cases h
      | table =>
        rw [exec_prefixCb_table s hc] at h
        obtain ⟨u, hu, _⟩ := exec_quiet _ (afterOperand s) (loud_decodeCb (operandByte s))
        rw [hu] at h; cases h
    all_goals cases h

/-- No instruction breaks the canonical form of memory. -/
theorem exec_wf {i : Instr} {s t : State} (h : exec i s = .next t) (w : Memory.wf s.mem = true) :
    Memory.wf t.mem = true := by
  obtain q | ⟨_, _, _, e⟩ | ⟨_, _, _, _, _, e⟩ | ⟨_, _, _, e⟩ | ⟨_, _, e⟩ | ⟨_, _, e⟩ | ⟨_, _, _, _, _, _, e⟩ :=
    exec_cases h
  · exact q.wf w
  all_goals rw [e]; exact w

/-- No instruction changes what an address of a read-only region reads as. -/
theorem exec_readOnly {i : Instr} {s t : State} (h : exec i s = .next t) (a : Word)
    (w : writable s.params.regions a = false) : t.peek a = s.peek a := by
  obtain q | ⟨_, _, _, e⟩ | ⟨_, _, _, _, _, e⟩ | ⟨_, _, _, e⟩ | ⟨_, _, e⟩ | ⟨_, _, e⟩ | ⟨_, _, _, _, _, _, e⟩ :=
    exec_cases h
  · exact q.readOnly a w
  all_goals exact State.peek_congr_own s t (by rw [e]) (by rw [e]) a (external_of_readOnly _ _ w)

/-- Interrupt entry clears IME and ei_delay and is otherwise quiet. -/
theorem interruptEntry_quiet (s : State) (p f : Byte) :
    Quiet { s with ime := false, eiDelay := false } (s.interruptEntry p f) :=
  ((((Quiet.refl _).push16 _).busWrite _ _).jump _).report _

/-- The first byte of an encoding that has one. -/
theorem encode_headD {i : Instr} {op : Byte} (h : (encode i).head? = some op) : (encode i).headD 0 = op := by
  have e : (encode i).headD 0 = ((encode i).head?).getD 0 := by cases encode i <;> rfl
  rw [e, h]; rfl

/-- What decodes to UNDEFINED is the byte itself, and it has no operand bytes. -/
theorem decodeMain_undefined {op b1 b2 x : Byte} (h : decodeMain op b1 b2 = .undefined x) :
    x = op ∧ operandCount op = 0 := by
  by_cases hc : op = 0xCB
  · subst hc
    rw [decodeMain_CB] at h
    have := loud_decodeCb b1
    rw [h] at this; cases this
  · have key : ∀ n : Fin 256, n ≠ 203 → ∀ b1 b2 x, decodeMain (BitVec.ofFin n) b1 b2 = .undefined x →
        x = BitVec.ofFin n ∧ operandCount (BitVec.ofFin n) = 0 := by
      intro n hn b1 b2 x
      fin_cases n <;> first | (intro h; cases h; exact ⟨rfl, rfl⟩) | exact absurd rfl hn | (intro h; cases h)
    exact key op.toFin (fun e => hc (BitVec.eq_of_toNat_eq (congrArg Fin.val e))) b1 b2 x h

theorem decode_undefined {op b1 b2 x : Byte} {rest : List Byte} (h : decode [op, b1, b2] = .ok (.undefined x, rest)) :
    rest = [b1, b2] := by
  match hk : operandCount op with
  | 0 =>
    simp only [decode, hk] at h
    exact (Prod.mk.inj (Except.ok.inj h)).2.symm
  | 1 =>
    simp only [decode, hk] at h
    have := (decodeMain_undefined (Prod.mk.inj (Except.ok.inj h)).1).2
    omega
  | _ + 2 =>
    simp only [decode, hk] at h
    have := (decodeMain_undefined (Prod.mk.inj (Except.ok.inj h)).1).2
    omega

/-- Fetching the operand bytes moves pc, adds the reads and takes their side effects, and nothing else. -/
theorem fetchInstr_state (op : Byte) (s : State) :
    ∃ pc device bus, (fetchInstr op s).2 = { s with pc := pc, device := device, bus := bus } := by
  unfold fetchInstr
  split
  · exact ⟨_, _, _, rfl⟩
  · split
    · exact ⟨_, _, _, rfl⟩
    · exact ⟨_, _, _, rfl⟩
    · exact ⟨_, _, _, rfl⟩

/-- Before UNDEFINED no operand byte is fetched. -/
theorem fetchInstr_undefined {op x : Byte} {s : State} (h : (fetchInstr op s).1 = .undefined x) :
    (fetchInstr op s).2 = s := by
  unfold fetchInstr at h ⊢
  by_cases hc : op = 0xCB ∧ s.params.cbExt = .refuse
  · rw [if_pos hc]
  · rw [if_neg hc] at h ⊢
    match hk : operandCount op with
    | 0 => rfl
    | 1 =>
      rw [hk] at h
      exact absurd (decodeMain_undefined h).2 (by omega)
    | _ + 2 =>
      rw [hk] at h
      exact absurd (decodeMain_undefined h).2 (by omega)

/-! ## The bytes a fetch reads -/

@[simp] theorem readsFrom_zero (s : State) (a : Word) : readsFrom s a 0 = [] := rfl
@[simp] theorem readsFrom_succ (s : State) (a : Word) (n : Nat) :
    readsFrom s a (n + 1) = .read a (s.peek a) :: readsFrom (s.afterRead a) (a + 1) n := rfl
@[simp] theorem bytesFrom_zero (s : State) (a : Word) : bytesFrom s a 0 = [] := rfl
@[simp] theorem bytesFrom_succ (s : State) (a : Word) (n : Nat) :
    bytesFrom s a (n + 1) = s.peek a :: bytesFrom (s.afterRead a) (a + 1) n := rfl
@[simp] theorem readsFrom_length (s : State) (a : Word) (n : Nat) : (readsFrom s a n).length = n := by
  induction n generalizing s a with
  | zero => rfl
  | succ n ih => simp [ih]

/-- What reads give depends on `Mem` and the parameters alone. -/
theorem readsFrom_congr (s t : State) (hm : t.mem = s.mem) (hd : t.device = s.device) (hp : t.params = s.params)
    (a : Word) (n : Nat) : readsFrom t a n = readsFrom s a n ∧ bytesFrom t a n = bytesFrom s a n := by
  induction n generalizing s t a with
  | zero => exact ⟨rfl, rfl⟩
  | succ n ih =>
    have h := ih (s.afterRead a) (t.afterRead a) (by simpa using hm) (by simp [hd, hp]) (by simpa using hp) (a + 1)
    simp only [readsFrom_succ, bytesFrom_succ, State.peek_congr s t hm hd hp, h.1, h.2, and_self]

/-- The fetch decodes what the decoder decodes from the bytes at pc. -/
theorem fetchInstr_decode (op : Byte) (s : State) (i : Instr) (rest : List Byte)
    (h : s.params.cbExt = .refuse → op ≠ 0xCB)
    (hd : decode (op :: bytesFrom s s.pc 2) = .ok (i, rest)) :
    rest.length ≤ 2 ∧
    fetchInstr op s =
      (i, { s with
            pc := s.pc + BitVec.ofNat 16 (2 - rest.length),
            device := deviceAfter s.params s.device (readsFrom s s.pc (2 - rest.length)),
            bus := s.bus ++ readsFrom s s.pc (2 - rest.length) }) := by
  rw [fetchInstr_count s op h]
  match hk : operandCount op with
  | 0 =>
    simp only [bytesFrom, decode, hk] at hd; cases hd
    simp
  | 1 =>
    simp only [bytesFrom, decode, hk] at hd; cases hd
    simp [operandByte, afterOperand]
  | _ + 2 =>
    simp only [bytesFrom, decode, hk] at hd; cases hd
    simp [operandByte, afterOperands, wordReads]

/-! ## What a step does -/

/-- The state in which a step that runs an instruction fetches its opcode. -/
def readyToRun (s : State) : State :=
  { s.checked with halted := decide (s.params.profile = .core) && s.halted }

/-- A step that answers a next state idles, enters an interrupt, or runs an instruction. -/
theorem step_cases {s t : State} (h : step s = .next t) :
    (s.params.profile = .full ∧ s.stopped = true ∧ t = s.beginStep.report (s.count .idleStopped)) ∨
    (s.params.profile = .full ∧ s.stopped = false ∧ s.halted = true ∧
      t = s.checked.report (s.count .idleHalted)) ∨
    (s.params.profile = .full ∧ s.params.irq = .canonical ∧ s.stopped = false ∧ s.ime = true ∧
      pendingRequests s ≠ 0 ∧
      t = ({ s.checked with halted := false } : State).interruptEntry (pendingRequests s) (s.peek 0xFF0F)) ∨
    ((s.params.profile = .full → s.stopped = false) ∧
      finishStep s (runInstruction (readyToRun s)) = .next t) := by
  have coreReady : s.params.profile = .core → readyToRun s = s.checked := by
    intro hp; simp [readyToRun, hp, State.checked]
  have fullReady : s.params.profile = .full → readyToRun s = { s.checked with halted := false } := by
    intro hp; simp [readyToRun, hp]
  unfold step at h
  cases hp : s.params.profile with
  | core =>
    rw [prepare_core s hp] at h
    exact .inr (.inr (.inr ⟨nofun, by rw [coreReady hp]; exact h⟩))
  | full =>
    cases hs : s.stopped with
    | true =>
      rw [prepare_stopped s hp hs] at h
      cases h
      exact .inl ⟨rfl, rfl, rfl⟩
    | false =>
      cases hi : s.params.irq with
      | none =>
        rw [prepare_noIrq s hp hi hs] at h
        cases hh : s.halted with
        | true =>
          rw [hh] at h; cases h
          exact .inr (.inl ⟨rfl, rfl, rfl, rfl⟩)
        | false =>
          rw [hh] at h
          refine .inr (.inr (.inr ⟨fun _ => rfl, ?_⟩))
          have e : ({ s.checked with halted := false } : State) = s.checked := by simp [State.checked, hh]
          rw [fullReady hp, e]; exact h
      | canonical =>
        rw [prepare_canonical s hp hi hs] at h
        by_cases hc : s.ime = true ∧ pendingRequests s ≠ 0
        · have hb : (pendingRequests s == 0) = false := by simpa using hc.2
          simp only [if_pos hc, hb, Bool.and_false] at h
          cases h
          exact .inr (.inr (.inl ⟨rfl, rfl, rfl, hc.1, hc.2, rfl⟩))
        · simp only [if_neg hc] at h
          cases hh : s.halted && pendingRequests s == 0 with
          | true =>
            simp only [hh, if_true] at h
            cases h
            have : s.halted = true := by simpa using (Bool.and_eq_true_iff.mp hh).1
            refine .inr (.inl ⟨rfl, rfl, this, ?_⟩)
            simp [State.checked, this, State.report, State.count]
          | false =>
            simp only [hh, Bool.false_eq_true, if_false] at h
            exact .inr (.inr (.inr ⟨fun _ => rfl, by rw [fullReady hp]; exact h⟩))

/-- What a completed instruction of a step was: the gate let it pass, its meaning answered `u`, and the delayed effect of EI
followed. -/
theorem runInstruction_cases {s s₀ t : State} (h : finishStep s₀ (runInstruction s) = .next t) :
    profileGate s (s.peek s.pc) = none ∧
    ∃ u, exec (fetchInstr (s.peek s.pc) s.fetchOpcode.2).1 (fetchInstr (s.peek s.pc) s.fetchOpcode.2).2 =
        .next u ∧
      t = if u.params.profile = .full ∧ s₀.eiDelay = true ∧ u.eiDelay = true
        then { u with ime := true, eiDelay := false } else u := by
  rw [runInstruction, State.fetchOpcode_val, execOpcode] at h
  have e : profileGate s.fetchOpcode.2 (s.peek s.pc) = profileGate s (s.peek s.pc) := rfl
  rw [e] at h
  split at h
  · cases h
  · refine ⟨‹_›, ?_⟩
    cases hx : exec (fetchInstr (s.peek s.pc) s.fetchOpcode.2).1 (fetchInstr (s.peek s.pc) s.fetchOpcode.2).2 with
    | next u => rw [hx] at h; cases h; exact ⟨u, rfl, rfl⟩
    | fault f => rw [hx] at h; cases f; cases h
    | refused r => rw [hx] at h; cases h

/-- The opcode fetch moves pc, sets the latch, clears halt_bug, adds its read and takes its side effect, and nothing else. -/
theorem fetchOpcode_state (s : State) :
    ∃ pc device bus, s.fetchOpcode.2 =
      { s with
        fetchedAt := s.pc, haltBug := s.haltBug && !s.heldBack, pc := pc, device := device, bus := bus } :=
  ⟨_, _, _, rfl⟩

/-- The state an instruction of a step starts in: pc, the latch, the accesses and their side effects differ, and halt_bug is clear under
PROFILE = FULL. -/
theorem fetched_state (op : Byte) (s : State) :
    ∃ pc device bus, (fetchInstr op s.fetchOpcode.2).2 =
      { s with
        fetchedAt := s.pc, haltBug := s.haltBug && !s.heldBack, pc := pc, device := device, bus := bus } := by
  obtain ⟨pc, device, bus, h⟩ := fetchInstr_state op s.fetchOpcode.2
  exact ⟨pc, device, bus, h⟩

/-- Where the core runs an instruction and the opcode fetch advances pc, the step is that of the handler invoked directly
in the state after the fetch (R101, R104). -/
theorem step_runs_fetched (s : State) (h : RunsNext s) (hb : s.haltBug = false) :
    step s = finishStep s (execOpcode (s.peek s.pc)
      { s with
        fetchedAt := s.pc, cycles := 0, pc := s.pc + 1, device := readDevice s.params s.device s.pc,
        bus := checkReads s ++ [.read s.pc (s.peek s.pc)] }) := by
  rw [step_runs s h, runInstruction, State.fetchOpcode_val, State.fetchOpcode_advance s.checked hb]
  rfl

/-- The same where the HALT bug holds pc back (R369). -/
theorem step_runs_heldBack (s : State) (hp : s.params.profile = .full) (h : RunsNext s) (hb : s.haltBug = true) :
    step s = finishStep s (execOpcode (s.peek s.pc)
      { s with
        fetchedAt := s.pc, haltBug := false, cycles := 0, device := readDevice s.params s.device s.pc,
        bus := checkReads s ++ [.read s.pc (s.peek s.pc)] }) := by
  rw [step_runs s h, runInstruction, State.fetchOpcode_val, State.fetchOpcode_heldBack s.checked hp hb]
  rfl

/-- How a step that ran `i` from `r` ends. -/
theorem finishStep_exec (s r : State) (i : Instr) (hp : r.params = s.params) :
    (∀ t, exec i r = .next t → finishStep s (exec i r) = .next (afterInstruction s t)) ∧
    (∀ op, i = .undefined op → finishStep s (exec i r) = .fault (.undefinedOpcode op r.fetchedAt
      { s with
        pc := r.fetchedAt + 1, device := r.device, fetchedAt := r.fetchedAt, cycles := r.cycles, bus := r.bus })) ∧
    (∀ q, exec i r = .refused q → finishStep s (exec i r) = .refused q) := by
  refine ⟨fun t h => ?_, fun op h => by subst h; rfl, fun q h => by rw [h]; rfl⟩
  rw [h]; simp only [finishStep, afterInstruction, exec_params h, hp]

/-! ## Runs -/

/-- A run of one step and more is that step and the rest. -/
theorem run_succ (M : Host.Core) (k : Nat) (s t : M.State) :
    M.run (k + 1) s = .next t ↔ ∃ u, M.step s = .next u ∧ M.run k u = .next t := by
  rw [Host.Core.run]
  cases M.step s with
  | next u => exact ⟨fun h => ⟨u, rfl, h⟩, fun ⟨_, e, h⟩ => by cases e; exact h⟩
  | fault r => exact ⟨nofun, fun ⟨_, e, _⟩ => by cases e⟩
  | refused r => exact ⟨nofun, fun ⟨_, e, _⟩ => by cases e⟩

theorem safeRun_zero (s t : State) : SafeRun 0 s t ↔ s = t :=
  ⟨fun h => Host.Outcome.next.inj h, fun h => congrArg _ h⟩
theorem safeRun_succ (k : Nat) (s t : State) :
    SafeRun (k + 1) s t ↔ ∃ u, step s = .next u ∧ SafeRun k u t :=
  run_succ core k s t

end Sys2Proof.Laws
end

