-- ==== Sys2Proof/Laws/PerInstr.lean ====
section
/-! SUPPORT. Statements made once for each instruction. -/

namespace Sys2Proof.Laws

/-- An instruction is its opcode byte and as many operand bytes as the opcode byte says (spec R105); the bare prefix, which is
no whole instruction, is the one byte 0xCB (assumption 14). -/
def EncodedLength.Statement (i : Instr) : Prop :=
  i.wf = true → i ≠ .prefixCb → (encode i).length = 1 + operandCount ((encode i).headD 0)

theorem EncodedLength.of_encode (i : Instr) (op : Byte) (rest : List Byte) (h : encode i = op :: rest)
    (hn : operandCount op = rest.length) : EncodedLength.Statement i := by
  intro _ _
  rw [h, List.headD_cons, List.length_cons, hn, Nat.add_comm]

theorem EncodedLength.ldBCnn (nn : Word) : EncodedLength.Statement (.ldBCnn nn) :=
  EncodedLength.of_encode _ 0x01 _ rfl rfl
theorem EncodedLength.ldBn (n : Byte) : EncodedLength.Statement (.ldBn n) :=
  EncodedLength.of_encode _ 0x06 _ rfl rfl
theorem EncodedLength.ldIndNNSP (nn : Word) : EncodedLength.Statement (.ldIndNNSP nn) :=
  EncodedLength.of_encode _ 0x08 _ rfl rfl
theorem EncodedLength.ldCn (n : Byte) : EncodedLength.Statement (.ldCn n) :=
  EncodedLength.of_encode _ 0x0E _ rfl rfl
theorem EncodedLength.stop (pad : Byte) : EncodedLength.Statement (.stop pad) :=
  EncodedLength.of_encode _ 0x10 _ rfl rfl
theorem EncodedLength.ldDEnn (nn : Word) : EncodedLength.Statement (.ldDEnn nn) :=
  EncodedLength.of_encode _ 0x11 _ rfl rfl
theorem EncodedLength.ldDn (n : Byte) : EncodedLength.Statement (.ldDn n) :=
  EncodedLength.of_encode _ 0x16 _ rfl rfl
theorem EncodedLength.jrE (e : Byte) : EncodedLength.Statement (.jrE e) :=
  EncodedLength.of_encode _ 0x18 _ rfl rfl
theorem EncodedLength.ldEn (n : Byte) : EncodedLength.Statement (.ldEn n) :=
  EncodedLength.of_encode _ 0x1E _ rfl rfl
theorem EncodedLength.jrNZe (e : Byte) : EncodedLength.Statement (.jrNZe e) :=
  EncodedLength.of_encode _ 0x20 _ rfl rfl
theorem EncodedLength.ldHLnn (nn : Word) : EncodedLength.Statement (.ldHLnn nn) :=
  EncodedLength.of_encode _ 0x21 _ rfl rfl
theorem EncodedLength.ldHn (n : Byte) : EncodedLength.Statement (.ldHn n) :=
  EncodedLength.of_encode _ 0x26 _ rfl rfl
theorem EncodedLength.jrZe (e : Byte) : EncodedLength.Statement (.jrZe e) :=
  EncodedLength.of_encode _ 0x28 _ rfl rfl
theorem EncodedLength.ldLn (n : Byte) : EncodedLength.Statement (.ldLn n) :=
  EncodedLength.of_encode _ 0x2E _ rfl rfl
theorem EncodedLength.jrNCe (e : Byte) : EncodedLength.Statement (.jrNCe e) :=
  EncodedLength.of_encode _ 0x30 _ rfl rfl
theorem EncodedLength.ldSPnn (nn : Word) : EncodedLength.Statement (.ldSPnn nn) :=
  EncodedLength.of_encode _ 0x31 _ rfl rfl
theorem EncodedLength.ldIndHLn (n : Byte) : EncodedLength.Statement (.ldIndHLn n) :=
  EncodedLength.of_encode _ 0x36 _ rfl rfl
theorem EncodedLength.jrCe (e : Byte) : EncodedLength.Statement (.jrCe e) :=
  EncodedLength.of_encode _ 0x38 _ rfl rfl
theorem EncodedLength.ldAn (n : Byte) : EncodedLength.Statement (.ldAn n) :=
  EncodedLength.of_encode _ 0x3E _ rfl rfl
theorem EncodedLength.jpNZnn (nn : Word) : EncodedLength.Statement (.jpNZnn nn) :=
  EncodedLength.of_encode _ 0xC2 _ rfl rfl
theorem EncodedLength.jpNn (nn : Word) : EncodedLength.Statement (.jpNn nn) :=
  EncodedLength.of_encode _ 0xC3 _ rfl rfl
theorem EncodedLength.callNZnn (nn : Word) : EncodedLength.Statement (.callNZnn nn) :=
  EncodedLength.of_encode _ 0xC4 _ rfl rfl
theorem EncodedLength.addAn (n : Byte) : EncodedLength.Statement (.addAn n) :=
  EncodedLength.of_encode _ 0xC6 _ rfl rfl
theorem EncodedLength.jpZnn (nn : Word) : EncodedLength.Statement (.jpZnn nn) :=
  EncodedLength.of_encode _ 0xCA _ rfl rfl
theorem EncodedLength.callZnn (nn : Word) : EncodedLength.Statement (.callZnn nn) :=
  EncodedLength.of_encode _ 0xCC _ rfl rfl
theorem EncodedLength.callNn (nn : Word) : EncodedLength.Statement (.callNn nn) :=
  EncodedLength.of_encode _ 0xCD _ rfl rfl
theorem EncodedLength.adcAn (n : Byte) : EncodedLength.Statement (.adcAn n) :=
  EncodedLength.of_encode _ 0xCE _ rfl rfl
theorem EncodedLength.jpNCnn (nn : Word) : EncodedLength.Statement (.jpNCnn nn) :=
  EncodedLength.of_encode _ 0xD2 _ rfl rfl
theorem EncodedLength.undefined (op : Byte) : EncodedLength.Statement (.undefined op) := by
  intro h _
  revert op
  decide
theorem EncodedLength.callNCnn (nn : Word) : EncodedLength.Statement (.callNCnn nn) :=
  EncodedLength.of_encode _ 0xD4 _ rfl rfl
theorem EncodedLength.subAn (n : Byte) : EncodedLength.Statement (.subAn n) :=
  EncodedLength.of_encode _ 0xD6 _ rfl rfl
theorem EncodedLength.jpCnn (nn : Word) : EncodedLength.Statement (.jpCnn nn) :=
  EncodedLength.of_encode _ 0xDA _ rfl rfl
theorem EncodedLength.callCnn (nn : Word) : EncodedLength.Statement (.callCnn nn) :=
  EncodedLength.of_encode _ 0xDC _ rfl rfl
theorem EncodedLength.sbcAn (n : Byte) : EncodedLength.Statement (.sbcAn n) :=
  EncodedLength.of_encode _ 0xDE _ rfl rfl
theorem EncodedLength.ldhIndNA (n : Byte) : EncodedLength.Statement (.ldhIndNA n) :=
  EncodedLength.of_encode _ 0xE0 _ rfl rfl
theorem EncodedLength.andAn (n : Byte) : EncodedLength.Statement (.andAn n) :=
  EncodedLength.of_encode _ 0xE6 _ rfl rfl
theorem EncodedLength.addSPe (e : Byte) : EncodedLength.Statement (.addSPe e) :=
  EncodedLength.of_encode _ 0xE8 _ rfl rfl
theorem EncodedLength.ldIndNNA (nn : Word) : EncodedLength.Statement (.ldIndNNA nn) :=
  EncodedLength.of_encode _ 0xEA _ rfl rfl
theorem EncodedLength.xorAn (n : Byte) : EncodedLength.Statement (.xorAn n) :=
  EncodedLength.of_encode _ 0xEE _ rfl rfl
theorem EncodedLength.ldhAIndN (n : Byte) : EncodedLength.Statement (.ldhAIndN n) :=
  EncodedLength.of_encode _ 0xF0 _ rfl rfl
theorem EncodedLength.orAn (n : Byte) : EncodedLength.Statement (.orAn n) :=
  EncodedLength.of_encode _ 0xF6 _ rfl rfl
theorem EncodedLength.ldHLSPe (e : Byte) : EncodedLength.Statement (.ldHLSPe e) :=
  EncodedLength.of_encode _ 0xF8 _ rfl rfl
theorem EncodedLength.ldAIndNN (nn : Word) : EncodedLength.Statement (.ldAIndNN nn) :=
  EncodedLength.of_encode _ 0xFA _ rfl rfl
theorem EncodedLength.cpAn (n : Byte) : EncodedLength.Statement (.cpAn n) :=
  EncodedLength.of_encode _ 0xFE _ rfl rfl
theorem EncodedLength.nop : EncodedLength.Statement .nop :=
  EncodedLength.of_encode _ 0x00 _ rfl rfl
theorem EncodedLength.ldIndBCA : EncodedLength.Statement .ldIndBCA :=
  EncodedLength.of_encode _ 0x02 _ rfl rfl
theorem EncodedLength.incBC : EncodedLength.Statement .incBC :=
  EncodedLength.of_encode _ 0x03 _ rfl rfl
theorem EncodedLength.incB : EncodedLength.Statement .incB :=
  EncodedLength.of_encode _ 0x04 _ rfl rfl
theorem EncodedLength.decB : EncodedLength.Statement .decB :=
  EncodedLength.of_encode _ 0x05 _ rfl rfl
theorem EncodedLength.rlca : EncodedLength.Statement .rlca :=
  EncodedLength.of_encode _ 0x07 _ rfl rfl
theorem EncodedLength.addHLBC : EncodedLength.Statement .addHLBC :=
  EncodedLength.of_encode _ 0x09 _ rfl rfl
theorem EncodedLength.ldAIndBC : EncodedLength.Statement .ldAIndBC :=
  EncodedLength.of_encode _ 0x0A _ rfl rfl
theorem EncodedLength.decBC : EncodedLength.Statement .decBC :=
  EncodedLength.of_encode _ 0x0B _ rfl rfl
theorem EncodedLength.incC : EncodedLength.Statement .incC :=
  EncodedLength.of_encode _ 0x0C _ rfl rfl
theorem EncodedLength.decC : EncodedLength.Statement .decC :=
  EncodedLength.of_encode _ 0x0D _ rfl rfl
theorem EncodedLength.rrca : EncodedLength.Statement .rrca :=
  EncodedLength.of_encode _ 0x0F _ rfl rfl
theorem EncodedLength.ldIndDEA : EncodedLength.Statement .ldIndDEA :=
  EncodedLength.of_encode _ 0x12 _ rfl rfl
theorem EncodedLength.incDE : EncodedLength.Statement .incDE :=
  EncodedLength.of_encode _ 0x13 _ rfl rfl
theorem EncodedLength.incD : EncodedLength.Statement .incD :=
  EncodedLength.of_encode _ 0x14 _ rfl rfl
theorem EncodedLength.decD : EncodedLength.Statement .decD :=
  EncodedLength.of_encode _ 0x15 _ rfl rfl
theorem EncodedLength.rla : EncodedLength.Statement .rla :=
  EncodedLength.of_encode _ 0x17 _ rfl rfl
theorem EncodedLength.addHLDE : EncodedLength.Statement .addHLDE :=
  EncodedLength.of_encode _ 0x19 _ rfl rfl
theorem EncodedLength.ldAIndDE : EncodedLength.Statement .ldAIndDE :=
  EncodedLength.of_encode _ 0x1A _ rfl rfl
theorem EncodedLength.decDE : EncodedLength.Statement .decDE :=
  EncodedLength.of_encode _ 0x1B _ rfl rfl
theorem EncodedLength.incE : EncodedLength.Statement .incE :=
  EncodedLength.of_encode _ 0x1C _ rfl rfl
theorem EncodedLength.decE : EncodedLength.Statement .decE :=
  EncodedLength.of_encode _ 0x1D _ rfl rfl
theorem EncodedLength.rra : EncodedLength.Statement .rra :=
  EncodedLength.of_encode _ 0x1F _ rfl rfl
theorem EncodedLength.ldIndHLIA : EncodedLength.Statement .ldIndHLIA :=
  EncodedLength.of_encode _ 0x22 _ rfl rfl
theorem EncodedLength.incHL : EncodedLength.Statement .incHL :=
  EncodedLength.of_encode _ 0x23 _ rfl rfl
theorem EncodedLength.incH : EncodedLength.Statement .incH :=
  EncodedLength.of_encode _ 0x24 _ rfl rfl
theorem EncodedLength.decH : EncodedLength.Statement .decH :=
  EncodedLength.of_encode _ 0x25 _ rfl rfl
theorem EncodedLength.daa : EncodedLength.Statement .daa :=
  EncodedLength.of_encode _ 0x27 _ rfl rfl
theorem EncodedLength.addHLHL : EncodedLength.Statement .addHLHL :=
  EncodedLength.of_encode _ 0x29 _ rfl rfl
theorem EncodedLength.ldAIndHLI : EncodedLength.Statement .ldAIndHLI :=
  EncodedLength.of_encode _ 0x2A _ rfl rfl
theorem EncodedLength.decHL : EncodedLength.Statement .decHL :=
  EncodedLength.of_encode _ 0x2B _ rfl rfl
theorem EncodedLength.incL : EncodedLength.Statement .incL :=
  EncodedLength.of_encode _ 0x2C _ rfl rfl
theorem EncodedLength.decL : EncodedLength.Statement .decL :=
  EncodedLength.of_encode _ 0x2D _ rfl rfl
theorem EncodedLength.cpl : EncodedLength.Statement .cpl :=
  EncodedLength.of_encode _ 0x2F _ rfl rfl
theorem EncodedLength.ldIndHLDA : EncodedLength.Statement .ldIndHLDA :=
  EncodedLength.of_encode _ 0x32 _ rfl rfl
theorem EncodedLength.incSP : EncodedLength.Statement .incSP :=
  EncodedLength.of_encode _ 0x33 _ rfl rfl
theorem EncodedLength.incIndHL : EncodedLength.Statement .incIndHL :=
  EncodedLength.of_encode _ 0x34 _ rfl rfl
theorem EncodedLength.decIndHL : EncodedLength.Statement .decIndHL :=
  EncodedLength.of_encode _ 0x35 _ rfl rfl
theorem EncodedLength.scf : EncodedLength.Statement .scf :=
  EncodedLength.of_encode _ 0x37 _ rfl rfl
theorem EncodedLength.addHLSP : EncodedLength.Statement .addHLSP :=
  EncodedLength.of_encode _ 0x39 _ rfl rfl
theorem EncodedLength.ldAIndHLD : EncodedLength.Statement .ldAIndHLD :=
  EncodedLength.of_encode _ 0x3A _ rfl rfl
theorem EncodedLength.decSP : EncodedLength.Statement .decSP :=
  EncodedLength.of_encode _ 0x3B _ rfl rfl
theorem EncodedLength.incA : EncodedLength.Statement .incA :=
  EncodedLength.of_encode _ 0x3C _ rfl rfl
theorem EncodedLength.decA : EncodedLength.Statement .decA :=
  EncodedLength.of_encode _ 0x3D _ rfl rfl
theorem EncodedLength.ccf : EncodedLength.Statement .ccf :=
  EncodedLength.of_encode _ 0x3F _ rfl rfl
theorem EncodedLength.ldBB : EncodedLength.Statement .ldBB :=
  EncodedLength.of_encode _ 0x40 _ rfl rfl
theorem EncodedLength.ldBC : EncodedLength.Statement .ldBC :=
  EncodedLength.of_encode _ 0x41 _ rfl rfl
theorem EncodedLength.ldBD : EncodedLength.Statement .ldBD :=
  EncodedLength.of_encode _ 0x42 _ rfl rfl
theorem EncodedLength.ldBE : EncodedLength.Statement .ldBE :=
  EncodedLength.of_encode _ 0x43 _ rfl rfl
theorem EncodedLength.ldBH : EncodedLength.Statement .ldBH :=
  EncodedLength.of_encode _ 0x44 _ rfl rfl
theorem EncodedLength.ldBL : EncodedLength.Statement .ldBL :=
  EncodedLength.of_encode _ 0x45 _ rfl rfl
theorem EncodedLength.ldBIndHL : EncodedLength.Statement .ldBIndHL :=
  EncodedLength.of_encode _ 0x46 _ rfl rfl
theorem EncodedLength.ldBA : EncodedLength.Statement .ldBA :=
  EncodedLength.of_encode _ 0x47 _ rfl rfl
theorem EncodedLength.ldCB : EncodedLength.Statement .ldCB :=
  EncodedLength.of_encode _ 0x48 _ rfl rfl
theorem EncodedLength.ldCC : EncodedLength.Statement .ldCC :=
  EncodedLength.of_encode _ 0x49 _ rfl rfl
theorem EncodedLength.ldCD : EncodedLength.Statement .ldCD :=
  EncodedLength.of_encode _ 0x4A _ rfl rfl
theorem EncodedLength.ldCE : EncodedLength.Statement .ldCE :=
  EncodedLength.of_encode _ 0x4B _ rfl rfl
theorem EncodedLength.ldCH : EncodedLength.Statement .ldCH :=
  EncodedLength.of_encode _ 0x4C _ rfl rfl
theorem EncodedLength.ldCL : EncodedLength.Statement .ldCL :=
  EncodedLength.of_encode _ 0x4D _ rfl rfl
theorem EncodedLength.ldCIndHL : EncodedLength.Statement .ldCIndHL :=
  EncodedLength.of_encode _ 0x4E _ rfl rfl
theorem EncodedLength.ldCA : EncodedLength.Statement .ldCA :=
  EncodedLength.of_encode _ 0x4F _ rfl rfl
theorem EncodedLength.ldDB : EncodedLength.Statement .ldDB :=
  EncodedLength.of_encode _ 0x50 _ rfl rfl
theorem EncodedLength.ldDC : EncodedLength.Statement .ldDC :=
  EncodedLength.of_encode _ 0x51 _ rfl rfl
theorem EncodedLength.ldDD : EncodedLength.Statement .ldDD :=
  EncodedLength.of_encode _ 0x52 _ rfl rfl
theorem EncodedLength.ldDE : EncodedLength.Statement .ldDE :=
  EncodedLength.of_encode _ 0x53 _ rfl rfl
theorem EncodedLength.ldDH : EncodedLength.Statement .ldDH :=
  EncodedLength.of_encode _ 0x54 _ rfl rfl
theorem EncodedLength.ldDL : EncodedLength.Statement .ldDL :=
  EncodedLength.of_encode _ 0x55 _ rfl rfl
theorem EncodedLength.ldDIndHL : EncodedLength.Statement .ldDIndHL :=
  EncodedLength.of_encode _ 0x56 _ rfl rfl
theorem EncodedLength.ldDA : EncodedLength.Statement .ldDA :=
  EncodedLength.of_encode _ 0x57 _ rfl rfl
theorem EncodedLength.ldEB : EncodedLength.Statement .ldEB :=
  EncodedLength.of_encode _ 0x58 _ rfl rfl
theorem EncodedLength.ldEC : EncodedLength.Statement .ldEC :=
  EncodedLength.of_encode _ 0x59 _ rfl rfl
theorem EncodedLength.ldED : EncodedLength.Statement .ldED :=
  EncodedLength.of_encode _ 0x5A _ rfl rfl
theorem EncodedLength.ldEE : EncodedLength.Statement .ldEE :=
  EncodedLength.of_encode _ 0x5B _ rfl rfl
theorem EncodedLength.ldEH : EncodedLength.Statement .ldEH :=
  EncodedLength.of_encode _ 0x5C _ rfl rfl
theorem EncodedLength.ldEL : EncodedLength.Statement .ldEL :=
  EncodedLength.of_encode _ 0x5D _ rfl rfl
theorem EncodedLength.ldEIndHL : EncodedLength.Statement .ldEIndHL :=
  EncodedLength.of_encode _ 0x5E _ rfl rfl
theorem EncodedLength.ldEA : EncodedLength.Statement .ldEA :=
  EncodedLength.of_encode _ 0x5F _ rfl rfl
theorem EncodedLength.ldHB : EncodedLength.Statement .ldHB :=
  EncodedLength.of_encode _ 0x60 _ rfl rfl
theorem EncodedLength.ldHC : EncodedLength.Statement .ldHC :=
  EncodedLength.of_encode _ 0x61 _ rfl rfl
theorem EncodedLength.ldHD : EncodedLength.Statement .ldHD :=
  EncodedLength.of_encode _ 0x62 _ rfl rfl
theorem EncodedLength.ldHE : EncodedLength.Statement .ldHE :=
  EncodedLength.of_encode _ 0x63 _ rfl rfl
theorem EncodedLength.ldHH : EncodedLength.Statement .ldHH :=
  EncodedLength.of_encode _ 0x64 _ rfl rfl
theorem EncodedLength.ldHL : EncodedLength.Statement .ldHL :=
  EncodedLength.of_encode _ 0x65 _ rfl rfl
theorem EncodedLength.ldHIndHL : EncodedLength.Statement .ldHIndHL :=
  EncodedLength.of_encode _ 0x66 _ rfl rfl
theorem EncodedLength.ldHA : EncodedLength.Statement .ldHA :=
  EncodedLength.of_encode _ 0x67 _ rfl rfl
theorem EncodedLength.ldLB : EncodedLength.Statement .ldLB :=
  EncodedLength.of_encode _ 0x68 _ rfl rfl
theorem EncodedLength.ldLC : EncodedLength.Statement .ldLC :=
  EncodedLength.of_encode _ 0x69 _ rfl rfl
theorem EncodedLength.ldLD : EncodedLength.Statement .ldLD :=
  EncodedLength.of_encode _ 0x6A _ rfl rfl
theorem EncodedLength.ldLE : EncodedLength.Statement .ldLE :=
  EncodedLength.of_encode _ 0x6B _ rfl rfl
theorem EncodedLength.ldLH : EncodedLength.Statement .ldLH :=
  EncodedLength.of_encode _ 0x6C _ rfl rfl
theorem EncodedLength.ldLL : EncodedLength.Statement .ldLL :=
  EncodedLength.of_encode _ 0x6D _ rfl rfl
theorem EncodedLength.ldLIndHL : EncodedLength.Statement .ldLIndHL :=
  EncodedLength.of_encode _ 0x6E _ rfl rfl
theorem EncodedLength.ldLA : EncodedLength.Statement .ldLA :=
  EncodedLength.of_encode _ 0x6F _ rfl rfl
theorem EncodedLength.ldIndHLB : EncodedLength.Statement .ldIndHLB :=
  EncodedLength.of_encode _ 0x70 _ rfl rfl
theorem EncodedLength.ldIndHLC : EncodedLength.Statement .ldIndHLC :=
  EncodedLength.of_encode _ 0x71 _ rfl rfl
theorem EncodedLength.ldIndHLD : EncodedLength.Statement .ldIndHLD :=
  EncodedLength.of_encode _ 0x72 _ rfl rfl
theorem EncodedLength.ldIndHLE : EncodedLength.Statement .ldIndHLE :=
  EncodedLength.of_encode _ 0x73 _ rfl rfl
theorem EncodedLength.ldIndHLH : EncodedLength.Statement .ldIndHLH :=
  EncodedLength.of_encode _ 0x74 _ rfl rfl
theorem EncodedLength.ldIndHLL : EncodedLength.Statement .ldIndHLL :=
  EncodedLength.of_encode _ 0x75 _ rfl rfl
theorem EncodedLength.halt : EncodedLength.Statement .halt :=
  EncodedLength.of_encode _ 0x76 _ rfl rfl
theorem EncodedLength.ldIndHLA : EncodedLength.Statement .ldIndHLA :=
  EncodedLength.of_encode _ 0x77 _ rfl rfl
theorem EncodedLength.ldAB : EncodedLength.Statement .ldAB :=
  EncodedLength.of_encode _ 0x78 _ rfl rfl
theorem EncodedLength.ldAC : EncodedLength.Statement .ldAC :=
  EncodedLength.of_encode _ 0x79 _ rfl rfl
theorem EncodedLength.ldAD : EncodedLength.Statement .ldAD :=
  EncodedLength.of_encode _ 0x7A _ rfl rfl
theorem EncodedLength.ldAE : EncodedLength.Statement .ldAE :=
  EncodedLength.of_encode _ 0x7B _ rfl rfl
theorem EncodedLength.ldAH : EncodedLength.Statement .ldAH :=
  EncodedLength.of_encode _ 0x7C _ rfl rfl
theorem EncodedLength.ldAL : EncodedLength.Statement .ldAL :=
  EncodedLength.of_encode _ 0x7D _ rfl rfl
theorem EncodedLength.ldAIndHL : EncodedLength.Statement .ldAIndHL :=
  EncodedLength.of_encode _ 0x7E _ rfl rfl
theorem EncodedLength.ldAA : EncodedLength.Statement .ldAA :=
  EncodedLength.of_encode _ 0x7F _ rfl rfl
theorem EncodedLength.addAB : EncodedLength.Statement .addAB :=
  EncodedLength.of_encode _ 0x80 _ rfl rfl
theorem EncodedLength.addAC : EncodedLength.Statement .addAC :=
  EncodedLength.of_encode _ 0x81 _ rfl rfl
theorem EncodedLength.addAD : EncodedLength.Statement .addAD :=
  EncodedLength.of_encode _ 0x82 _ rfl rfl
theorem EncodedLength.addAE : EncodedLength.Statement .addAE :=
  EncodedLength.of_encode _ 0x83 _ rfl rfl
theorem EncodedLength.addAH : EncodedLength.Statement .addAH :=
  EncodedLength.of_encode _ 0x84 _ rfl rfl
theorem EncodedLength.addAL : EncodedLength.Statement .addAL :=
  EncodedLength.of_encode _ 0x85 _ rfl rfl
theorem EncodedLength.addAIndHL : EncodedLength.Statement .addAIndHL :=
  EncodedLength.of_encode _ 0x86 _ rfl rfl
theorem EncodedLength.addAA : EncodedLength.Statement .addAA :=
  EncodedLength.of_encode _ 0x87 _ rfl rfl
theorem EncodedLength.adcAB : EncodedLength.Statement .adcAB :=
  EncodedLength.of_encode _ 0x88 _ rfl rfl
theorem EncodedLength.adcAC : EncodedLength.Statement .adcAC :=
  EncodedLength.of_encode _ 0x89 _ rfl rfl
theorem EncodedLength.adcAD : EncodedLength.Statement .adcAD :=
  EncodedLength.of_encode _ 0x8A _ rfl rfl
theorem EncodedLength.adcAE : EncodedLength.Statement .adcAE :=
  EncodedLength.of_encode _ 0x8B _ rfl rfl
theorem EncodedLength.adcAH : EncodedLength.Statement .adcAH :=
  EncodedLength.of_encode _ 0x8C _ rfl rfl
theorem EncodedLength.adcAL : EncodedLength.Statement .adcAL :=
  EncodedLength.of_encode _ 0x8D _ rfl rfl
theorem EncodedLength.adcAIndHL : EncodedLength.Statement .adcAIndHL :=
  EncodedLength.of_encode _ 0x8E _ rfl rfl
theorem EncodedLength.adcAA : EncodedLength.Statement .adcAA :=
  EncodedLength.of_encode _ 0x8F _ rfl rfl
theorem EncodedLength.subAB : EncodedLength.Statement .subAB :=
  EncodedLength.of_encode _ 0x90 _ rfl rfl
theorem EncodedLength.subAC : EncodedLength.Statement .subAC :=
  EncodedLength.of_encode _ 0x91 _ rfl rfl
theorem EncodedLength.subAD : EncodedLength.Statement .subAD :=
  EncodedLength.of_encode _ 0x92 _ rfl rfl
theorem EncodedLength.subAE : EncodedLength.Statement .subAE :=
  EncodedLength.of_encode _ 0x93 _ rfl rfl
theorem EncodedLength.subAH : EncodedLength.Statement .subAH :=
  EncodedLength.of_encode _ 0x94 _ rfl rfl
theorem EncodedLength.subAL : EncodedLength.Statement .subAL :=
  EncodedLength.of_encode _ 0x95 _ rfl rfl
theorem EncodedLength.subAIndHL : EncodedLength.Statement .subAIndHL :=
  EncodedLength.of_encode _ 0x96 _ rfl rfl
theorem EncodedLength.subAA : EncodedLength.Statement .subAA :=
  EncodedLength.of_encode _ 0x97 _ rfl rfl
theorem EncodedLength.sbcAB : EncodedLength.Statement .sbcAB :=
  EncodedLength.of_encode _ 0x98 _ rfl rfl
theorem EncodedLength.sbcAC : EncodedLength.Statement .sbcAC :=
  EncodedLength.of_encode _ 0x99 _ rfl rfl
theorem EncodedLength.sbcAD : EncodedLength.Statement .sbcAD :=
  EncodedLength.of_encode _ 0x9A _ rfl rfl
theorem EncodedLength.sbcAE : EncodedLength.Statement .sbcAE :=
  EncodedLength.of_encode _ 0x9B _ rfl rfl
theorem EncodedLength.sbcAH : EncodedLength.Statement .sbcAH :=
  EncodedLength.of_encode _ 0x9C _ rfl rfl
theorem EncodedLength.sbcAL : EncodedLength.Statement .sbcAL :=
  EncodedLength.of_encode _ 0x9D _ rfl rfl
theorem EncodedLength.sbcAIndHL : EncodedLength.Statement .sbcAIndHL :=
  EncodedLength.of_encode _ 0x9E _ rfl rfl
theorem EncodedLength.sbcAA : EncodedLength.Statement .sbcAA :=
  EncodedLength.of_encode _ 0x9F _ rfl rfl
theorem EncodedLength.andAB : EncodedLength.Statement .andAB :=
  EncodedLength.of_encode _ 0xA0 _ rfl rfl
theorem EncodedLength.andAC : EncodedLength.Statement .andAC :=
  EncodedLength.of_encode _ 0xA1 _ rfl rfl
theorem EncodedLength.andAD : EncodedLength.Statement .andAD :=
  EncodedLength.of_encode _ 0xA2 _ rfl rfl
theorem EncodedLength.andAE : EncodedLength.Statement .andAE :=
  EncodedLength.of_encode _ 0xA3 _ rfl rfl
theorem EncodedLength.andAH : EncodedLength.Statement .andAH :=
  EncodedLength.of_encode _ 0xA4 _ rfl rfl
theorem EncodedLength.andAL : EncodedLength.Statement .andAL :=
  EncodedLength.of_encode _ 0xA5 _ rfl rfl
theorem EncodedLength.andAIndHL : EncodedLength.Statement .andAIndHL :=
  EncodedLength.of_encode _ 0xA6 _ rfl rfl
theorem EncodedLength.andAA : EncodedLength.Statement .andAA :=
  EncodedLength.of_encode _ 0xA7 _ rfl rfl
theorem EncodedLength.xorAB : EncodedLength.Statement .xorAB :=
  EncodedLength.of_encode _ 0xA8 _ rfl rfl
theorem EncodedLength.xorAC : EncodedLength.Statement .xorAC :=
  EncodedLength.of_encode _ 0xA9 _ rfl rfl
theorem EncodedLength.xorAD : EncodedLength.Statement .xorAD :=
  EncodedLength.of_encode _ 0xAA _ rfl rfl
theorem EncodedLength.xorAE : EncodedLength.Statement .xorAE :=
  EncodedLength.of_encode _ 0xAB _ rfl rfl
theorem EncodedLength.xorAH : EncodedLength.Statement .xorAH :=
  EncodedLength.of_encode _ 0xAC _ rfl rfl
theorem EncodedLength.xorAL : EncodedLength.Statement .xorAL :=
  EncodedLength.of_encode _ 0xAD _ rfl rfl
theorem EncodedLength.xorAIndHL : EncodedLength.Statement .xorAIndHL :=
  EncodedLength.of_encode _ 0xAE _ rfl rfl
theorem EncodedLength.xorAA : EncodedLength.Statement .xorAA :=
  EncodedLength.of_encode _ 0xAF _ rfl rfl
theorem EncodedLength.orAB : EncodedLength.Statement .orAB :=
  EncodedLength.of_encode _ 0xB0 _ rfl rfl
theorem EncodedLength.orAC : EncodedLength.Statement .orAC :=
  EncodedLength.of_encode _ 0xB1 _ rfl rfl
theorem EncodedLength.orAD : EncodedLength.Statement .orAD :=
  EncodedLength.of_encode _ 0xB2 _ rfl rfl
theorem EncodedLength.orAE : EncodedLength.Statement .orAE :=
  EncodedLength.of_encode _ 0xB3 _ rfl rfl
theorem EncodedLength.orAH : EncodedLength.Statement .orAH :=
  EncodedLength.of_encode _ 0xB4 _ rfl rfl
theorem EncodedLength.orAL : EncodedLength.Statement .orAL :=
  EncodedLength.of_encode _ 0xB5 _ rfl rfl
theorem EncodedLength.orAIndHL : EncodedLength.Statement .orAIndHL :=
  EncodedLength.of_encode _ 0xB6 _ rfl rfl
theorem EncodedLength.orAA : EncodedLength.Statement .orAA :=
  EncodedLength.of_encode _ 0xB7 _ rfl rfl
theorem EncodedLength.cpAB : EncodedLength.Statement .cpAB :=
  EncodedLength.of_encode _ 0xB8 _ rfl rfl
theorem EncodedLength.cpAC : EncodedLength.Statement .cpAC :=
  EncodedLength.of_encode _ 0xB9 _ rfl rfl
theorem EncodedLength.cpAD : EncodedLength.Statement .cpAD :=
  EncodedLength.of_encode _ 0xBA _ rfl rfl
theorem EncodedLength.cpAE : EncodedLength.Statement .cpAE :=
  EncodedLength.of_encode _ 0xBB _ rfl rfl
theorem EncodedLength.cpAH : EncodedLength.Statement .cpAH :=
  EncodedLength.of_encode _ 0xBC _ rfl rfl
theorem EncodedLength.cpAL : EncodedLength.Statement .cpAL :=
  EncodedLength.of_encode _ 0xBD _ rfl rfl
theorem EncodedLength.cpAIndHL : EncodedLength.Statement .cpAIndHL :=
  EncodedLength.of_encode _ 0xBE _ rfl rfl
theorem EncodedLength.cpAA : EncodedLength.Statement .cpAA :=
  EncodedLength.of_encode _ 0xBF _ rfl rfl
theorem EncodedLength.retNZ : EncodedLength.Statement .retNZ :=
  EncodedLength.of_encode _ 0xC0 _ rfl rfl
theorem EncodedLength.popBC : EncodedLength.Statement .popBC :=
  EncodedLength.of_encode _ 0xC1 _ rfl rfl
theorem EncodedLength.pushBC : EncodedLength.Statement .pushBC :=
  EncodedLength.of_encode _ 0xC5 _ rfl rfl
theorem EncodedLength.rst00 : EncodedLength.Statement .rst00 :=
  EncodedLength.of_encode _ 0xC7 _ rfl rfl
theorem EncodedLength.retZ : EncodedLength.Statement .retZ :=
  EncodedLength.of_encode _ 0xC8 _ rfl rfl
theorem EncodedLength.ret : EncodedLength.Statement .ret :=
  EncodedLength.of_encode _ 0xC9 _ rfl rfl
theorem EncodedLength.prefixCb : EncodedLength.Statement .prefixCb :=
  fun _ h => absurd rfl h
theorem EncodedLength.rst08 : EncodedLength.Statement .rst08 :=
  EncodedLength.of_encode _ 0xCF _ rfl rfl
theorem EncodedLength.retNC : EncodedLength.Statement .retNC :=
  EncodedLength.of_encode _ 0xD0 _ rfl rfl
theorem EncodedLength.popDE : EncodedLength.Statement .popDE :=
  EncodedLength.of_encode _ 0xD1 _ rfl rfl
theorem EncodedLength.pushDE : EncodedLength.Statement .pushDE :=
  EncodedLength.of_encode _ 0xD5 _ rfl rfl
theorem EncodedLength.rst10 : EncodedLength.Statement .rst10 :=
  EncodedLength.of_encode _ 0xD7 _ rfl rfl
theorem EncodedLength.retC : EncodedLength.Statement .retC :=
  EncodedLength.of_encode _ 0xD8 _ rfl rfl
theorem EncodedLength.reti : EncodedLength.Statement .reti :=
  EncodedLength.of_encode _ 0xD9 _ rfl rfl
theorem EncodedLength.rst18 : EncodedLength.Statement .rst18 :=
  EncodedLength.of_encode _ 0xDF _ rfl rfl
theorem EncodedLength.popHL : EncodedLength.Statement .popHL :=
  EncodedLength.of_encode _ 0xE1 _ rfl rfl
theorem EncodedLength.ldIndCA : EncodedLength.Statement .ldIndCA :=
  EncodedLength.of_encode _ 0xE2 _ rfl rfl
theorem EncodedLength.pushHL : EncodedLength.Statement .pushHL :=
  EncodedLength.of_encode _ 0xE5 _ rfl rfl
theorem EncodedLength.rst20 : EncodedLength.Statement .rst20 :=
  EncodedLength.of_encode _ 0xE7 _ rfl rfl
theorem EncodedLength.jpHL : EncodedLength.Statement .jpHL :=
  EncodedLength.of_encode _ 0xE9 _ rfl rfl
theorem EncodedLength.rst28 : EncodedLength.Statement .rst28 :=
  EncodedLength.of_encode _ 0xEF _ rfl rfl
theorem EncodedLength.popAF : EncodedLength.Statement .popAF :=
  EncodedLength.of_encode _ 0xF1 _ rfl rfl
theorem EncodedLength.ldAIndC : EncodedLength.Statement .ldAIndC :=
  EncodedLength.of_encode _ 0xF2 _ rfl rfl
theorem EncodedLength.di : EncodedLength.Statement .di :=
  EncodedLength.of_encode _ 0xF3 _ rfl rfl
theorem EncodedLength.pushAF : EncodedLength.Statement .pushAF :=
  EncodedLength.of_encode _ 0xF5 _ rfl rfl
theorem EncodedLength.rst30 : EncodedLength.Statement .rst30 :=
  EncodedLength.of_encode _ 0xF7 _ rfl rfl
theorem EncodedLength.ldSPHL : EncodedLength.Statement .ldSPHL :=
  EncodedLength.of_encode _ 0xF9 _ rfl rfl
theorem EncodedLength.ei : EncodedLength.Statement .ei :=
  EncodedLength.of_encode _ 0xFB _ rfl rfl
theorem EncodedLength.rst38 : EncodedLength.Statement .rst38 :=
  EncodedLength.of_encode _ 0xFF _ rfl rfl
theorem EncodedLength.rlcB : EncodedLength.Statement .rlcB :=
  EncodedLength.of_encode _ 0xCB _ rfl rfl
theorem EncodedLength.rlcC : EncodedLength.Statement .rlcC :=
  EncodedLength.of_encode _ 0xCB _ rfl rfl
theorem EncodedLength.rlcD : EncodedLength.Statement .rlcD :=
  EncodedLength.of_encode _ 0xCB _ rfl rfl
theorem EncodedLength.rlcE : EncodedLength.Statement .rlcE :=
  EncodedLength.of_encode _ 0xCB _ rfl rfl
theorem EncodedLength.rlcH : EncodedLength.Statement .rlcH :=
  EncodedLength.of_encode _ 0xCB _ rfl rfl
theorem EncodedLength.rlcL : EncodedLength.Statement .rlcL :=
  EncodedLength.of_encode _ 0xCB _ rfl rfl
theorem EncodedLength.rlcIndHL : EncodedLength.Statement .rlcIndHL :=
  EncodedLength.of_encode _ 0xCB _ rfl rfl
theorem EncodedLength.rlcA : EncodedLength.Statement .rlcA :=
  EncodedLength.of_encode _ 0xCB _ rfl rfl
theorem EncodedLength.rrcB : EncodedLength.Statement .rrcB :=
  EncodedLength.of_encode _ 0xCB _ rfl rfl
theorem EncodedLength.rrcC : EncodedLength.Statement .rrcC :=
  EncodedLength.of_encode _ 0xCB _ rfl rfl
theorem EncodedLength.rrcD : EncodedLength.Statement .rrcD :=
  EncodedLength.of_encode _ 0xCB _ rfl rfl
theorem EncodedLength.rrcE : EncodedLength.Statement .rrcE :=
  EncodedLength.of_encode _ 0xCB _ rfl rfl
theorem EncodedLength.rrcH : EncodedLength.Statement .rrcH :=
  EncodedLength.of_encode _ 0xCB _ rfl rfl
theorem EncodedLength.rrcL : EncodedLength.Statement .rrcL :=
  EncodedLength.of_encode _ 0xCB _ rfl rfl
theorem EncodedLength.rrcIndHL : EncodedLength.Statement .rrcIndHL :=
  EncodedLength.of_encode _ 0xCB _ rfl rfl
theorem EncodedLength.rrcA : EncodedLength.Statement .rrcA :=
  EncodedLength.of_encode _ 0xCB _ rfl rfl
theorem EncodedLength.rlB : EncodedLength.Statement .rlB :=
  EncodedLength.of_encode _ 0xCB _ rfl rfl
theorem EncodedLength.rlC : EncodedLength.Statement .rlC :=
  EncodedLength.of_encode _ 0xCB _ rfl rfl
theorem EncodedLength.rlD : EncodedLength.Statement .rlD :=
  EncodedLength.of_encode _ 0xCB _ rfl rfl
theorem EncodedLength.rlE : EncodedLength.Statement .rlE :=
  EncodedLength.of_encode _ 0xCB _ rfl rfl
theorem EncodedLength.rlH : EncodedLength.Statement .rlH :=
  EncodedLength.of_encode _ 0xCB _ rfl rfl
theorem EncodedLength.rlL : EncodedLength.Statement .rlL :=
  EncodedLength.of_encode _ 0xCB _ rfl rfl
theorem EncodedLength.rlIndHL : EncodedLength.Statement .rlIndHL :=
  EncodedLength.of_encode _ 0xCB _ rfl rfl
theorem EncodedLength.rlA : EncodedLength.Statement .rlA :=
  EncodedLength.of_encode _ 0xCB _ rfl rfl
theorem EncodedLength.rrB : EncodedLength.Statement .rrB :=
  EncodedLength.of_encode _ 0xCB _ rfl rfl
theorem EncodedLength.rrC : EncodedLength.Statement .rrC :=
  EncodedLength.of_encode _ 0xCB _ rfl rfl
theorem EncodedLength.rrD : EncodedLength.Statement .rrD :=
  EncodedLength.of_encode _ 0xCB _ rfl rfl
theorem EncodedLength.rrE : EncodedLength.Statement .rrE :=
  EncodedLength.of_encode _ 0xCB _ rfl rfl
theorem EncodedLength.rrH : EncodedLength.Statement .rrH :=
  EncodedLength.of_encode _ 0xCB _ rfl rfl
theorem EncodedLength.rrL : EncodedLength.Statement .rrL :=
  EncodedLength.of_encode _ 0xCB _ rfl rfl
theorem EncodedLength.rrIndHL : EncodedLength.Statement .rrIndHL :=
  EncodedLength.of_encode _ 0xCB _ rfl rfl
theorem EncodedLength.rrA : EncodedLength.Statement .rrA :=
  EncodedLength.of_encode _ 0xCB _ rfl rfl
theorem EncodedLength.slaB : EncodedLength.Statement .slaB :=
  EncodedLength.of_encode _ 0xCB _ rfl rfl
theorem EncodedLength.slaC : EncodedLength.Statement .slaC :=
  EncodedLength.of_encode _ 0xCB _ rfl rfl
theorem EncodedLength.slaD : EncodedLength.Statement .slaD :=
  EncodedLength.of_encode _ 0xCB _ rfl rfl
theorem EncodedLength.slaE : EncodedLength.Statement .slaE :=
  EncodedLength.of_encode _ 0xCB _ rfl rfl
theorem EncodedLength.slaH : EncodedLength.Statement .slaH :=
  EncodedLength.of_encode _ 0xCB _ rfl rfl
theorem EncodedLength.slaL : EncodedLength.Statement .slaL :=
  EncodedLength.of_encode _ 0xCB _ rfl rfl
theorem EncodedLength.slaIndHL : EncodedLength.Statement .slaIndHL :=
  EncodedLength.of_encode _ 0xCB _ rfl rfl
theorem EncodedLength.slaA : EncodedLength.Statement .slaA :=
  EncodedLength.of_encode _ 0xCB _ rfl rfl
theorem EncodedLength.sraB : EncodedLength.Statement .sraB :=
  EncodedLength.of_encode _ 0xCB _ rfl rfl
theorem EncodedLength.sraC : EncodedLength.Statement .sraC :=
  EncodedLength.of_encode _ 0xCB _ rfl rfl
theorem EncodedLength.sraD : EncodedLength.Statement .sraD :=
  EncodedLength.of_encode _ 0xCB _ rfl rfl
theorem EncodedLength.sraE : EncodedLength.Statement .sraE :=
  EncodedLength.of_encode _ 0xCB _ rfl rfl
theorem EncodedLength.sraH : EncodedLength.Statement .sraH :=
  EncodedLength.of_encode _ 0xCB _ rfl rfl
theorem EncodedLength.sraL : EncodedLength.Statement .sraL :=
  EncodedLength.of_encode _ 0xCB _ rfl rfl
theorem EncodedLength.sraIndHL : EncodedLength.Statement .sraIndHL :=
  EncodedLength.of_encode _ 0xCB _ rfl rfl
theorem EncodedLength.sraA : EncodedLength.Statement .sraA :=
  EncodedLength.of_encode _ 0xCB _ rfl rfl
theorem EncodedLength.swapB : EncodedLength.Statement .swapB :=
  EncodedLength.of_encode _ 0xCB _ rfl rfl
theorem EncodedLength.swapC : EncodedLength.Statement .swapC :=
  EncodedLength.of_encode _ 0xCB _ rfl rfl
theorem EncodedLength.swapD : EncodedLength.Statement .swapD :=
  EncodedLength.of_encode _ 0xCB _ rfl rfl
theorem EncodedLength.swapE : EncodedLength.Statement .swapE :=
  EncodedLength.of_encode _ 0xCB _ rfl rfl
theorem EncodedLength.swapH : EncodedLength.Statement .swapH :=
  EncodedLength.of_encode _ 0xCB _ rfl rfl
theorem EncodedLength.swapL : EncodedLength.Statement .swapL :=
  EncodedLength.of_encode _ 0xCB _ rfl rfl
theorem EncodedLength.swapIndHL : EncodedLength.Statement .swapIndHL :=
  EncodedLength.of_encode _ 0xCB _ rfl rfl
theorem EncodedLength.swapA : EncodedLength.Statement .swapA :=
  EncodedLength.of_encode _ 0xCB _ rfl rfl
theorem EncodedLength.srlB : EncodedLength.Statement .srlB :=
  EncodedLength.of_encode _ 0xCB _ rfl rfl
theorem EncodedLength.srlC : EncodedLength.Statement .srlC :=
  EncodedLength.of_encode _ 0xCB _ rfl rfl
theorem EncodedLength.srlD : EncodedLength.Statement .srlD :=
  EncodedLength.of_encode _ 0xCB _ rfl rfl
theorem EncodedLength.srlE : EncodedLength.Statement .srlE :=
  EncodedLength.of_encode _ 0xCB _ rfl rfl
theorem EncodedLength.srlH : EncodedLength.Statement .srlH :=
  EncodedLength.of_encode _ 0xCB _ rfl rfl
theorem EncodedLength.srlL : EncodedLength.Statement .srlL :=
  EncodedLength.of_encode _ 0xCB _ rfl rfl
theorem EncodedLength.srlIndHL : EncodedLength.Statement .srlIndHL :=
  EncodedLength.of_encode _ 0xCB _ rfl rfl
theorem EncodedLength.srlA : EncodedLength.Statement .srlA :=
  EncodedLength.of_encode _ 0xCB _ rfl rfl
theorem EncodedLength.bit0B : EncodedLength.Statement .bit0B :=
  EncodedLength.of_encode _ 0xCB _ rfl rfl
theorem EncodedLength.bit0C : EncodedLength.Statement .bit0C :=
  EncodedLength.of_encode _ 0xCB _ rfl rfl
theorem EncodedLength.bit0D : EncodedLength.Statement .bit0D :=
  EncodedLength.of_encode _ 0xCB _ rfl rfl
theorem EncodedLength.bit0E : EncodedLength.Statement .bit0E :=
  EncodedLength.of_encode _ 0xCB _ rfl rfl
theorem EncodedLength.bit0H : EncodedLength.Statement .bit0H :=
  EncodedLength.of_encode _ 0xCB _ rfl rfl
theorem EncodedLength.bit0L : EncodedLength.Statement .bit0L :=
  EncodedLength.of_encode _ 0xCB _ rfl rfl
theorem EncodedLength.bit0IndHL : EncodedLength.Statement .bit0IndHL :=
  EncodedLength.of_encode _ 0xCB _ rfl rfl
theorem EncodedLength.bit0A : EncodedLength.Statement .bit0A :=
  EncodedLength.of_encode _ 0xCB _ rfl rfl
theorem EncodedLength.bit1B : EncodedLength.Statement .bit1B :=
  EncodedLength.of_encode _ 0xCB _ rfl rfl
theorem EncodedLength.bit1C : EncodedLength.Statement .bit1C :=
  EncodedLength.of_encode _ 0xCB _ rfl rfl
theorem EncodedLength.bit1D : EncodedLength.Statement .bit1D :=
  EncodedLength.of_encode _ 0xCB _ rfl rfl
theorem EncodedLength.bit1E : EncodedLength.Statement .bit1E :=
  EncodedLength.of_encode _ 0xCB _ rfl rfl
theorem EncodedLength.bit1H : EncodedLength.Statement .bit1H :=
  EncodedLength.of_encode _ 0xCB _ rfl rfl
theorem EncodedLength.bit1L : EncodedLength.Statement .bit1L :=
  EncodedLength.of_encode _ 0xCB _ rfl rfl
theorem EncodedLength.bit1IndHL : EncodedLength.Statement .bit1IndHL :=
  EncodedLength.of_encode _ 0xCB _ rfl rfl
theorem EncodedLength.bit1A : EncodedLength.Statement .bit1A :=
  EncodedLength.of_encode _ 0xCB _ rfl rfl
theorem EncodedLength.bit2B : EncodedLength.Statement .bit2B :=
  EncodedLength.of_encode _ 0xCB _ rfl rfl
theorem EncodedLength.bit2C : EncodedLength.Statement .bit2C :=
  EncodedLength.of_encode _ 0xCB _ rfl rfl
theorem EncodedLength.bit2D : EncodedLength.Statement .bit2D :=
  EncodedLength.of_encode _ 0xCB _ rfl rfl
theorem EncodedLength.bit2E : EncodedLength.Statement .bit2E :=
  EncodedLength.of_encode _ 0xCB _ rfl rfl
theorem EncodedLength.bit2H : EncodedLength.Statement .bit2H :=
  EncodedLength.of_encode _ 0xCB _ rfl rfl
theorem EncodedLength.bit2L : EncodedLength.Statement .bit2L :=
  EncodedLength.of_encode _ 0xCB _ rfl rfl
theorem EncodedLength.bit2IndHL : EncodedLength.Statement .bit2IndHL :=
  EncodedLength.of_encode _ 0xCB _ rfl rfl
theorem EncodedLength.bit2A : EncodedLength.Statement .bit2A :=
  EncodedLength.of_encode _ 0xCB _ rfl rfl
theorem EncodedLength.bit3B : EncodedLength.Statement .bit3B :=
  EncodedLength.of_encode _ 0xCB _ rfl rfl
theorem EncodedLength.bit3C : EncodedLength.Statement .bit3C :=
  EncodedLength.of_encode _ 0xCB _ rfl rfl
theorem EncodedLength.bit3D : EncodedLength.Statement .bit3D :=
  EncodedLength.of_encode _ 0xCB _ rfl rfl
theorem EncodedLength.bit3E : EncodedLength.Statement .bit3E :=
  EncodedLength.of_encode _ 0xCB _ rfl rfl
theorem EncodedLength.bit3H : EncodedLength.Statement .bit3H :=
  EncodedLength.of_encode _ 0xCB _ rfl rfl
theorem EncodedLength.bit3L : EncodedLength.Statement .bit3L :=
  EncodedLength.of_encode _ 0xCB _ rfl rfl
theorem EncodedLength.bit3IndHL : EncodedLength.Statement .bit3IndHL :=
  EncodedLength.of_encode _ 0xCB _ rfl rfl
theorem EncodedLength.bit3A : EncodedLength.Statement .bit3A :=
  EncodedLength.of_encode _ 0xCB _ rfl rfl
theorem EncodedLength.bit4B : EncodedLength.Statement .bit4B :=
  EncodedLength.of_encode _ 0xCB _ rfl rfl
theorem EncodedLength.bit4C : EncodedLength.Statement .bit4C :=
  EncodedLength.of_encode _ 0xCB _ rfl rfl
theorem EncodedLength.bit4D : EncodedLength.Statement .bit4D :=
  EncodedLength.of_encode _ 0xCB _ rfl rfl
theorem EncodedLength.bit4E : EncodedLength.Statement .bit4E :=
  EncodedLength.of_encode _ 0xCB _ rfl rfl
theorem EncodedLength.bit4H : EncodedLength.Statement .bit4H :=
  EncodedLength.of_encode _ 0xCB _ rfl rfl
theorem EncodedLength.bit4L : EncodedLength.Statement .bit4L :=
  EncodedLength.of_encode _ 0xCB _ rfl rfl
theorem EncodedLength.bit4IndHL : EncodedLength.Statement .bit4IndHL :=
  EncodedLength.of_encode _ 0xCB _ rfl rfl
theorem EncodedLength.bit4A : EncodedLength.Statement .bit4A :=
  EncodedLength.of_encode _ 0xCB _ rfl rfl
theorem EncodedLength.bit5B : EncodedLength.Statement .bit5B :=
  EncodedLength.of_encode _ 0xCB _ rfl rfl
theorem EncodedLength.bit5C : EncodedLength.Statement .bit5C :=
  EncodedLength.of_encode _ 0xCB _ rfl rfl
theorem EncodedLength.bit5D : EncodedLength.Statement .bit5D :=
  EncodedLength.of_encode _ 0xCB _ rfl rfl
theorem EncodedLength.bit5E : EncodedLength.Statement .bit5E :=
  EncodedLength.of_encode _ 0xCB _ rfl rfl
theorem EncodedLength.bit5H : EncodedLength.Statement .bit5H :=
  EncodedLength.of_encode _ 0xCB _ rfl rfl
theorem EncodedLength.bit5L : EncodedLength.Statement .bit5L :=
  EncodedLength.of_encode _ 0xCB _ rfl rfl
theorem EncodedLength.bit5IndHL : EncodedLength.Statement .bit5IndHL :=
  EncodedLength.of_encode _ 0xCB _ rfl rfl
theorem EncodedLength.bit5A : EncodedLength.Statement .bit5A :=
  EncodedLength.of_encode _ 0xCB _ rfl rfl
theorem EncodedLength.bit6B : EncodedLength.Statement .bit6B :=
  EncodedLength.of_encode _ 0xCB _ rfl rfl
theorem EncodedLength.bit6C : EncodedLength.Statement .bit6C :=
  EncodedLength.of_encode _ 0xCB _ rfl rfl
theorem EncodedLength.bit6D : EncodedLength.Statement .bit6D :=
  EncodedLength.of_encode _ 0xCB _ rfl rfl
theorem EncodedLength.bit6E : EncodedLength.Statement .bit6E :=
  EncodedLength.of_encode _ 0xCB _ rfl rfl
theorem EncodedLength.bit6H : EncodedLength.Statement .bit6H :=
  EncodedLength.of_encode _ 0xCB _ rfl rfl
theorem EncodedLength.bit6L : EncodedLength.Statement .bit6L :=
  EncodedLength.of_encode _ 0xCB _ rfl rfl
theorem EncodedLength.bit6IndHL : EncodedLength.Statement .bit6IndHL :=
  EncodedLength.of_encode _ 0xCB _ rfl rfl
theorem EncodedLength.bit6A : EncodedLength.Statement .bit6A :=
  EncodedLength.of_encode _ 0xCB _ rfl rfl
theorem EncodedLength.bit7B : EncodedLength.Statement .bit7B :=
  EncodedLength.of_encode _ 0xCB _ rfl rfl
theorem EncodedLength.bit7C : EncodedLength.Statement .bit7C :=
  EncodedLength.of_encode _ 0xCB _ rfl rfl
theorem EncodedLength.bit7D : EncodedLength.Statement .bit7D :=
  EncodedLength.of_encode _ 0xCB _ rfl rfl
theorem EncodedLength.bit7E : EncodedLength.Statement .bit7E :=
  EncodedLength.of_encode _ 0xCB _ rfl rfl
theorem EncodedLength.bit7H : EncodedLength.Statement .bit7H :=
  EncodedLength.of_encode _ 0xCB _ rfl rfl
theorem EncodedLength.bit7L : EncodedLength.Statement .bit7L :=
  EncodedLength.of_encode _ 0xCB _ rfl rfl
theorem EncodedLength.bit7IndHL : EncodedLength.Statement .bit7IndHL :=
  EncodedLength.of_encode _ 0xCB _ rfl rfl
theorem EncodedLength.bit7A : EncodedLength.Statement .bit7A :=
  EncodedLength.of_encode _ 0xCB _ rfl rfl
theorem EncodedLength.res0B : EncodedLength.Statement .res0B :=
  EncodedLength.of_encode _ 0xCB _ rfl rfl
theorem EncodedLength.res0C : EncodedLength.Statement .res0C :=
  EncodedLength.of_encode _ 0xCB _ rfl rfl
theorem EncodedLength.res0D : EncodedLength.Statement .res0D :=
  EncodedLength.of_encode _ 0xCB _ rfl rfl
theorem EncodedLength.res0E : EncodedLength.Statement .res0E :=
  EncodedLength.of_encode _ 0xCB _ rfl rfl
theorem EncodedLength.res0H : EncodedLength.Statement .res0H :=
  EncodedLength.of_encode _ 0xCB _ rfl rfl
theorem EncodedLength.res0L : EncodedLength.Statement .res0L :=
  EncodedLength.of_encode _ 0xCB _ rfl rfl
theorem EncodedLength.res0IndHL : EncodedLength.Statement .res0IndHL :=
  EncodedLength.of_encode _ 0xCB _ rfl rfl
theorem EncodedLength.res0A : EncodedLength.Statement .res0A :=
  EncodedLength.of_encode _ 0xCB _ rfl rfl
theorem EncodedLength.res1B : EncodedLength.Statement .res1B :=
  EncodedLength.of_encode _ 0xCB _ rfl rfl
theorem EncodedLength.res1C : EncodedLength.Statement .res1C :=
  EncodedLength.of_encode _ 0xCB _ rfl rfl
theorem EncodedLength.res1D : EncodedLength.Statement .res1D :=
  EncodedLength.of_encode _ 0xCB _ rfl rfl
theorem EncodedLength.res1E : EncodedLength.Statement .res1E :=
  EncodedLength.of_encode _ 0xCB _ rfl rfl
theorem EncodedLength.res1H : EncodedLength.Statement .res1H :=
  EncodedLength.of_encode _ 0xCB _ rfl rfl
theorem EncodedLength.res1L : EncodedLength.Statement .res1L :=
  EncodedLength.of_encode _ 0xCB _ rfl rfl
theorem EncodedLength.res1IndHL : EncodedLength.Statement .res1IndHL :=
  EncodedLength.of_encode _ 0xCB _ rfl rfl
theorem EncodedLength.res1A : EncodedLength.Statement .res1A :=
  EncodedLength.of_encode _ 0xCB _ rfl rfl
theorem EncodedLength.res2B : EncodedLength.Statement .res2B :=
  EncodedLength.of_encode _ 0xCB _ rfl rfl
theorem EncodedLength.res2C : EncodedLength.Statement .res2C :=
  EncodedLength.of_encode _ 0xCB _ rfl rfl
theorem EncodedLength.res2D : EncodedLength.Statement .res2D :=
  EncodedLength.of_encode _ 0xCB _ rfl rfl
theorem EncodedLength.res2E : EncodedLength.Statement .res2E :=
  EncodedLength.of_encode _ 0xCB _ rfl rfl
theorem EncodedLength.res2H : EncodedLength.Statement .res2H :=
  EncodedLength.of_encode _ 0xCB _ rfl rfl
theorem EncodedLength.res2L : EncodedLength.Statement .res2L :=
  EncodedLength.of_encode _ 0xCB _ rfl rfl
theorem EncodedLength.res2IndHL : EncodedLength.Statement .res2IndHL :=
  EncodedLength.of_encode _ 0xCB _ rfl rfl
theorem EncodedLength.res2A : EncodedLength.Statement .res2A :=
  EncodedLength.of_encode _ 0xCB _ rfl rfl
theorem EncodedLength.res3B : EncodedLength.Statement .res3B :=
  EncodedLength.of_encode _ 0xCB _ rfl rfl
theorem EncodedLength.res3C : EncodedLength.Statement .res3C :=
  EncodedLength.of_encode _ 0xCB _ rfl rfl
theorem EncodedLength.res3D : EncodedLength.Statement .res3D :=
  EncodedLength.of_encode _ 0xCB _ rfl rfl
theorem EncodedLength.res3E : EncodedLength.Statement .res3E :=
  EncodedLength.of_encode _ 0xCB _ rfl rfl
theorem EncodedLength.res3H : EncodedLength.Statement .res3H :=
  EncodedLength.of_encode _ 0xCB _ rfl rfl
theorem EncodedLength.res3L : EncodedLength.Statement .res3L :=
  EncodedLength.of_encode _ 0xCB _ rfl rfl
theorem EncodedLength.res3IndHL : EncodedLength.Statement .res3IndHL :=
  EncodedLength.of_encode _ 0xCB _ rfl rfl
theorem EncodedLength.res3A : EncodedLength.Statement .res3A :=
  EncodedLength.of_encode _ 0xCB _ rfl rfl
theorem EncodedLength.res4B : EncodedLength.Statement .res4B :=
  EncodedLength.of_encode _ 0xCB _ rfl rfl
theorem EncodedLength.res4C : EncodedLength.Statement .res4C :=
  EncodedLength.of_encode _ 0xCB _ rfl rfl
theorem EncodedLength.res4D : EncodedLength.Statement .res4D :=
  EncodedLength.of_encode _ 0xCB _ rfl rfl
theorem EncodedLength.res4E : EncodedLength.Statement .res4E :=
  EncodedLength.of_encode _ 0xCB _ rfl rfl
theorem EncodedLength.res4H : EncodedLength.Statement .res4H :=
  EncodedLength.of_encode _ 0xCB _ rfl rfl
theorem EncodedLength.res4L : EncodedLength.Statement .res4L :=
  EncodedLength.of_encode _ 0xCB _ rfl rfl
theorem EncodedLength.res4IndHL : EncodedLength.Statement .res4IndHL :=
  EncodedLength.of_encode _ 0xCB _ rfl rfl
theorem EncodedLength.res4A : EncodedLength.Statement .res4A :=
  EncodedLength.of_encode _ 0xCB _ rfl rfl
theorem EncodedLength.res5B : EncodedLength.Statement .res5B :=
  EncodedLength.of_encode _ 0xCB _ rfl rfl
theorem EncodedLength.res5C : EncodedLength.Statement .res5C :=
  EncodedLength.of_encode _ 0xCB _ rfl rfl
theorem EncodedLength.res5D : EncodedLength.Statement .res5D :=
  EncodedLength.of_encode _ 0xCB _ rfl rfl
theorem EncodedLength.res5E : EncodedLength.Statement .res5E :=
  EncodedLength.of_encode _ 0xCB _ rfl rfl
theorem EncodedLength.res5H : EncodedLength.Statement .res5H :=
  EncodedLength.of_encode _ 0xCB _ rfl rfl
theorem EncodedLength.res5L : EncodedLength.Statement .res5L :=
  EncodedLength.of_encode _ 0xCB _ rfl rfl
theorem EncodedLength.res5IndHL : EncodedLength.Statement .res5IndHL :=
  EncodedLength.of_encode _ 0xCB _ rfl rfl
theorem EncodedLength.res5A : EncodedLength.Statement .res5A :=
  EncodedLength.of_encode _ 0xCB _ rfl rfl
theorem EncodedLength.res6B : EncodedLength.Statement .res6B :=
  EncodedLength.of_encode _ 0xCB _ rfl rfl
theorem EncodedLength.res6C : EncodedLength.Statement .res6C :=
  EncodedLength.of_encode _ 0xCB _ rfl rfl
theorem EncodedLength.res6D : EncodedLength.Statement .res6D :=
  EncodedLength.of_encode _ 0xCB _ rfl rfl
theorem EncodedLength.res6E : EncodedLength.Statement .res6E :=
  EncodedLength.of_encode _ 0xCB _ rfl rfl
theorem EncodedLength.res6H : EncodedLength.Statement .res6H :=
  EncodedLength.of_encode _ 0xCB _ rfl rfl
theorem EncodedLength.res6L : EncodedLength.Statement .res6L :=
  EncodedLength.of_encode _ 0xCB _ rfl rfl
theorem EncodedLength.res6IndHL : EncodedLength.Statement .res6IndHL :=
  EncodedLength.of_encode _ 0xCB _ rfl rfl
theorem EncodedLength.res6A : EncodedLength.Statement .res6A :=
  EncodedLength.of_encode _ 0xCB _ rfl rfl
theorem EncodedLength.res7B : EncodedLength.Statement .res7B :=
  EncodedLength.of_encode _ 0xCB _ rfl rfl
theorem EncodedLength.res7C : EncodedLength.Statement .res7C :=
  EncodedLength.of_encode _ 0xCB _ rfl rfl
theorem EncodedLength.res7D : EncodedLength.Statement .res7D :=
  EncodedLength.of_encode _ 0xCB _ rfl rfl
theorem EncodedLength.res7E : EncodedLength.Statement .res7E :=
  EncodedLength.of_encode _ 0xCB _ rfl rfl
theorem EncodedLength.res7H : EncodedLength.Statement .res7H :=
  EncodedLength.of_encode _ 0xCB _ rfl rfl
theorem EncodedLength.res7L : EncodedLength.Statement .res7L :=
  EncodedLength.of_encode _ 0xCB _ rfl rfl
theorem EncodedLength.res7IndHL : EncodedLength.Statement .res7IndHL :=
  EncodedLength.of_encode _ 0xCB _ rfl rfl
theorem EncodedLength.res7A : EncodedLength.Statement .res7A :=
  EncodedLength.of_encode _ 0xCB _ rfl rfl
theorem EncodedLength.set0B : EncodedLength.Statement .set0B :=
  EncodedLength.of_encode _ 0xCB _ rfl rfl
theorem EncodedLength.set0C : EncodedLength.Statement .set0C :=
  EncodedLength.of_encode _ 0xCB _ rfl rfl
theorem EncodedLength.set0D : EncodedLength.Statement .set0D :=
  EncodedLength.of_encode _ 0xCB _ rfl rfl
theorem EncodedLength.set0E : EncodedLength.Statement .set0E :=
  EncodedLength.of_encode _ 0xCB _ rfl rfl
theorem EncodedLength.set0H : EncodedLength.Statement .set0H :=
  EncodedLength.of_encode _ 0xCB _ rfl rfl
theorem EncodedLength.set0L : EncodedLength.Statement .set0L :=
  EncodedLength.of_encode _ 0xCB _ rfl rfl
theorem EncodedLength.set0IndHL : EncodedLength.Statement .set0IndHL :=
  EncodedLength.of_encode _ 0xCB _ rfl rfl
theorem EncodedLength.set0A : EncodedLength.Statement .set0A :=
  EncodedLength.of_encode _ 0xCB _ rfl rfl
theorem EncodedLength.set1B : EncodedLength.Statement .set1B :=
  EncodedLength.of_encode _ 0xCB _ rfl rfl
theorem EncodedLength.set1C : EncodedLength.Statement .set1C :=
  EncodedLength.of_encode _ 0xCB _ rfl rfl
theorem EncodedLength.set1D : EncodedLength.Statement .set1D :=
  EncodedLength.of_encode _ 0xCB _ rfl rfl
theorem EncodedLength.set1E : EncodedLength.Statement .set1E :=
  EncodedLength.of_encode _ 0xCB _ rfl rfl
theorem EncodedLength.set1H : EncodedLength.Statement .set1H :=
  EncodedLength.of_encode _ 0xCB _ rfl rfl
theorem EncodedLength.set1L : EncodedLength.Statement .set1L :=
  EncodedLength.of_encode _ 0xCB _ rfl rfl
theorem EncodedLength.set1IndHL : EncodedLength.Statement .set1IndHL :=
  EncodedLength.of_encode _ 0xCB _ rfl rfl
theorem EncodedLength.set1A : EncodedLength.Statement .set1A :=
  EncodedLength.of_encode _ 0xCB _ rfl rfl
theorem EncodedLength.set2B : EncodedLength.Statement .set2B :=
  EncodedLength.of_encode _ 0xCB _ rfl rfl
theorem EncodedLength.set2C : EncodedLength.Statement .set2C :=
  EncodedLength.of_encode _ 0xCB _ rfl rfl
theorem EncodedLength.set2D : EncodedLength.Statement .set2D :=
  EncodedLength.of_encode _ 0xCB _ rfl rfl
theorem EncodedLength.set2E : EncodedLength.Statement .set2E :=
  EncodedLength.of_encode _ 0xCB _ rfl rfl
theorem EncodedLength.set2H : EncodedLength.Statement .set2H :=
  EncodedLength.of_encode _ 0xCB _ rfl rfl
theorem EncodedLength.set2L : EncodedLength.Statement .set2L :=
  EncodedLength.of_encode _ 0xCB _ rfl rfl
theorem EncodedLength.set2IndHL : EncodedLength.Statement .set2IndHL :=
  EncodedLength.of_encode _ 0xCB _ rfl rfl
theorem EncodedLength.set2A : EncodedLength.Statement .set2A :=
  EncodedLength.of_encode _ 0xCB _ rfl rfl
theorem EncodedLength.set3B : EncodedLength.Statement .set3B :=
  EncodedLength.of_encode _ 0xCB _ rfl rfl
theorem EncodedLength.set3C : EncodedLength.Statement .set3C :=
  EncodedLength.of_encode _ 0xCB _ rfl rfl
theorem EncodedLength.set3D : EncodedLength.Statement .set3D :=
  EncodedLength.of_encode _ 0xCB _ rfl rfl
theorem EncodedLength.set3E : EncodedLength.Statement .set3E :=
  EncodedLength.of_encode _ 0xCB _ rfl rfl
theorem EncodedLength.set3H : EncodedLength.Statement .set3H :=
  EncodedLength.of_encode _ 0xCB _ rfl rfl
theorem EncodedLength.set3L : EncodedLength.Statement .set3L :=
  EncodedLength.of_encode _ 0xCB _ rfl rfl
theorem EncodedLength.set3IndHL : EncodedLength.Statement .set3IndHL :=
  EncodedLength.of_encode _ 0xCB _ rfl rfl
theorem EncodedLength.set3A : EncodedLength.Statement .set3A :=
  EncodedLength.of_encode _ 0xCB _ rfl rfl
theorem EncodedLength.set4B : EncodedLength.Statement .set4B :=
  EncodedLength.of_encode _ 0xCB _ rfl rfl
theorem EncodedLength.set4C : EncodedLength.Statement .set4C :=
  EncodedLength.of_encode _ 0xCB _ rfl rfl
theorem EncodedLength.set4D : EncodedLength.Statement .set4D :=
  EncodedLength.of_encode _ 0xCB _ rfl rfl
theorem EncodedLength.set4E : EncodedLength.Statement .set4E :=
  EncodedLength.of_encode _ 0xCB _ rfl rfl
theorem EncodedLength.set4H : EncodedLength.Statement .set4H :=
  EncodedLength.of_encode _ 0xCB _ rfl rfl
theorem EncodedLength.set4L : EncodedLength.Statement .set4L :=
  EncodedLength.of_encode _ 0xCB _ rfl rfl
theorem EncodedLength.set4IndHL : EncodedLength.Statement .set4IndHL :=
  EncodedLength.of_encode _ 0xCB _ rfl rfl
theorem EncodedLength.set4A : EncodedLength.Statement .set4A :=
  EncodedLength.of_encode _ 0xCB _ rfl rfl
theorem EncodedLength.set5B : EncodedLength.Statement .set5B :=
  EncodedLength.of_encode _ 0xCB _ rfl rfl
theorem EncodedLength.set5C : EncodedLength.Statement .set5C :=
  EncodedLength.of_encode _ 0xCB _ rfl rfl
theorem EncodedLength.set5D : EncodedLength.Statement .set5D :=
  EncodedLength.of_encode _ 0xCB _ rfl rfl
theorem EncodedLength.set5E : EncodedLength.Statement .set5E :=
  EncodedLength.of_encode _ 0xCB _ rfl rfl
theorem EncodedLength.set5H : EncodedLength.Statement .set5H :=
  EncodedLength.of_encode _ 0xCB _ rfl rfl
theorem EncodedLength.set5L : EncodedLength.Statement .set5L :=
  EncodedLength.of_encode _ 0xCB _ rfl rfl
theorem EncodedLength.set5IndHL : EncodedLength.Statement .set5IndHL :=
  EncodedLength.of_encode _ 0xCB _ rfl rfl
theorem EncodedLength.set5A : EncodedLength.Statement .set5A :=
  EncodedLength.of_encode _ 0xCB _ rfl rfl
theorem EncodedLength.set6B : EncodedLength.Statement .set6B :=
  EncodedLength.of_encode _ 0xCB _ rfl rfl
theorem EncodedLength.set6C : EncodedLength.Statement .set6C :=
  EncodedLength.of_encode _ 0xCB _ rfl rfl
theorem EncodedLength.set6D : EncodedLength.Statement .set6D :=
  EncodedLength.of_encode _ 0xCB _ rfl rfl
theorem EncodedLength.set6E : EncodedLength.Statement .set6E :=
  EncodedLength.of_encode _ 0xCB _ rfl rfl
theorem EncodedLength.set6H : EncodedLength.Statement .set6H :=
  EncodedLength.of_encode _ 0xCB _ rfl rfl
theorem EncodedLength.set6L : EncodedLength.Statement .set6L :=
  EncodedLength.of_encode _ 0xCB _ rfl rfl
theorem EncodedLength.set6IndHL : EncodedLength.Statement .set6IndHL :=
  EncodedLength.of_encode _ 0xCB _ rfl rfl
theorem EncodedLength.set6A : EncodedLength.Statement .set6A :=
  EncodedLength.of_encode _ 0xCB _ rfl rfl
theorem EncodedLength.set7B : EncodedLength.Statement .set7B :=
  EncodedLength.of_encode _ 0xCB _ rfl rfl
theorem EncodedLength.set7C : EncodedLength.Statement .set7C :=
  EncodedLength.of_encode _ 0xCB _ rfl rfl
theorem EncodedLength.set7D : EncodedLength.Statement .set7D :=
  EncodedLength.of_encode _ 0xCB _ rfl rfl
theorem EncodedLength.set7E : EncodedLength.Statement .set7E :=
  EncodedLength.of_encode _ 0xCB _ rfl rfl
theorem EncodedLength.set7H : EncodedLength.Statement .set7H :=
  EncodedLength.of_encode _ 0xCB _ rfl rfl
theorem EncodedLength.set7L : EncodedLength.Statement .set7L :=
  EncodedLength.of_encode _ 0xCB _ rfl rfl
theorem EncodedLength.set7IndHL : EncodedLength.Statement .set7IndHL :=
  EncodedLength.of_encode _ 0xCB _ rfl rfl
theorem EncodedLength.set7A : EncodedLength.Statement .set7A :=
  EncodedLength.of_encode _ 0xCB _ rfl rfl

end Sys2Proof.Laws
end

