-- ==== Sys2Proof/Tests/Slice0.lean ====
section
/-! SUPPORT. The model's own tests. Expected results are from the spec: the opcode grid (R111), the CB sub-table (R390), and the
test vectors of `95_test_vectors.md`, whose numbers the tests carry. The witnesses show states that meet the hypotheses of the
statements. -/

namespace Sys2Proof.Tests

open Sys2Proof.Machine

/-- The base state of spec `95_test_vectors.md`: the default INIT, FlatRAM, and the parameters of its conventions. -/
def base : State :=
  { State.reset with params := { State.reset.params with irq := .none, haltBug := .refuse, stop := .refuse } }

/-- Bytes placed at consecutive addresses. -/
def place (m : List Host.Cell) : Word → List Byte → List Host.Cell
  | _, [] => m
  | a, v :: vs => place (Memory.write m a.toNat v) (a + 1) vs

/-- The state with the bytes at pc and the cells in memory. -/
def start (s : State) (code : List Byte) (cells : List (Word × Byte)) : State :=
  { s with mem := place (cells.foldl (fun m c => Memory.write m c.1.toNat c.2) s.mem) s.pc code }

/-- The bytes a list of accesses wrote, in order. -/
def writes : List BusAccess → List (Word × Byte)
  | [] => []
  | .read _ _ :: rest => writes rest
  | .write a v :: rest => (a, v) :: writes rest

/-- A, F, B, C, D, E, H, L. -/
def registers (s : State) : List Byte :=
  [s.reg .A, s.flags.toByte, s.reg .B, s.reg .C, s.reg .D, s.reg .E, s.reg .H, s.reg .L]

/-- IME, ei_delay, halted, stopped and halt_bug in bits 0 to 4. -/
def bits (s : State) : Nat := bit s.ime + 2 * bit s.eiDelay + 4 * bit s.halted + 8 * bit s.stopped + 16 * bit s.haltBug

/-- What a vector says of a state after a step: registers, SP, PC, the bits of R40, cycles, bytes written. -/
structure Seen where
  registers : List Byte
  sp : Word
  pc : Word
  bits : Nat
  cycles : Nat
  written : List (Word × Byte)
  deriving DecidableEq, Repr

def seen (t : State) : Seen := ⟨registers t, t.sp, t.pc, bits t, t.cycles, writes t.bus⟩

/-- One step that completes. -/
def after (s : State) : Option Seen :=
  match step s with
  | .next t => some (seen t)
  | _ => none

/-- One step that faults: the opcode byte, its address, and the state. -/
def faulted (s : State) : Option (Byte × Word × Seen) :=
  match step s with
  | .fault (.undefinedOpcode op a t) => some (op, a, seen t)
  | _ => none

/-- The reason of one step that is refused. -/
def refusal (s : State) : Option Refusal :=
  match step s with
  | .refused r => some r
  | _ => none

/-- The accesses of one step, in order. -/
def accesses (s : State) : List BusAccess :=
  match step s with
  | .next t => t.bus
  | .fault (.undefinedOpcode _ _ t) => t.bus
  | .refused _ => []


/-! ## Well-formedness -/

theorem test_wf_undefined : (Instr.undefined 0xD3).wf = true ∧ (Instr.undefined 0xFD).wf = true := by decide
theorem test_wf_refuses_a_defined_byte : (Instr.undefined 0x00).wf = false ∧ (Instr.undefined 0xCB).wf = false := by decide

/-! ## Decoding: the grid of R111, with operand bytes 0x34 and 0x12, and the CB sub-table of R390 -/

/-- What the decoder reads from the opcode bytes from `n` on, each followed by the same operand bytes. -/
def grid (n k : Nat) : List (Option Instr) :=
  (List.range k).map fun j =>
    match decode [BitVec.ofNat 8 (n + j), 0x34, 0x12] with
    | .ok (i, _) => some i
    | .error _ => none

/-- What the decoder reads from 0xCB and the sub-opcodes from `n` on. -/
def gridCb (n k : Nat) : List (Option Instr) :=
  (List.range k).map fun j =>
    match decode [0xCB, BitVec.ofNat 8 (n + j)] with
    | .ok (i, _) => some i
    | .error _ => none

theorem test_grid_0x : grid 0x00 16 = List.map some
    [.nop, .ldBCnn 0x1234, .ldIndBCA, .incBC, .incB, .decB, .ldBn 0x34, .rlca,
      .ldIndNNSP 0x1234, .addHLBC, .ldAIndBC, .decBC, .incC, .decC, .ldCn 0x34, .rrca] := by decide
theorem test_grid_1x : grid 0x10 16 = List.map some
    [.stop 0x34, .ldDEnn 0x1234, .ldIndDEA, .incDE, .incD, .decD, .ldDn 0x34, .rla,
      .jrE 0x34, .addHLDE, .ldAIndDE, .decDE, .incE, .decE, .ldEn 0x34, .rra] := by decide
theorem test_grid_2x : grid 0x20 16 = List.map some
    [.jrNZe 0x34, .ldHLnn 0x1234, .ldIndHLIA, .incHL, .incH, .decH, .ldHn 0x34, .daa,
      .jrZe 0x34, .addHLHL, .ldAIndHLI, .decHL, .incL, .decL, .ldLn 0x34, .cpl] := by decide
theorem test_grid_3x : grid 0x30 16 = List.map some
    [.jrNCe 0x34, .ldSPnn 0x1234, .ldIndHLDA, .incSP, .incIndHL, .decIndHL, .ldIndHLn 0x34, .scf,
      .jrCe 0x34, .addHLSP, .ldAIndHLD, .decSP, .incA, .decA, .ldAn 0x34, .ccf] := by decide
theorem test_grid_4x : grid 0x40 16 = List.map some
    [.ldBB, .ldBC, .ldBD, .ldBE, .ldBH, .ldBL, .ldBIndHL, .ldBA,
      .ldCB, .ldCC, .ldCD, .ldCE, .ldCH, .ldCL, .ldCIndHL, .ldCA] := by decide
theorem test_grid_5x : grid 0x50 16 = List.map some
    [.ldDB, .ldDC, .ldDD, .ldDE, .ldDH, .ldDL, .ldDIndHL, .ldDA,
      .ldEB, .ldEC, .ldED, .ldEE, .ldEH, .ldEL, .ldEIndHL, .ldEA] := by decide
theorem test_grid_6x : grid 0x60 16 = List.map some
    [.ldHB, .ldHC, .ldHD, .ldHE, .ldHH, .ldHL, .ldHIndHL, .ldHA,
      .ldLB, .ldLC, .ldLD, .ldLE, .ldLH, .ldLL, .ldLIndHL, .ldLA] := by decide
theorem test_grid_7x : grid 0x70 16 = List.map some
    [.ldIndHLB, .ldIndHLC, .ldIndHLD, .ldIndHLE, .ldIndHLH, .ldIndHLL, .halt, .ldIndHLA,
      .ldAB, .ldAC, .ldAD, .ldAE, .ldAH, .ldAL, .ldAIndHL, .ldAA] := by decide
theorem test_grid_8x : grid 0x80 16 = List.map some
    [.addAB, .addAC, .addAD, .addAE, .addAH, .addAL, .addAIndHL, .addAA,
      .adcAB, .adcAC, .adcAD, .adcAE, .adcAH, .adcAL, .adcAIndHL, .adcAA] := by decide
theorem test_grid_9x : grid 0x90 16 = List.map some
    [.subAB, .subAC, .subAD, .subAE, .subAH, .subAL, .subAIndHL, .subAA,
      .sbcAB, .sbcAC, .sbcAD, .sbcAE, .sbcAH, .sbcAL, .sbcAIndHL, .sbcAA] := by decide
theorem test_grid_Ax : grid 0xA0 16 = List.map some
    [.andAB, .andAC, .andAD, .andAE, .andAH, .andAL, .andAIndHL, .andAA,
      .xorAB, .xorAC, .xorAD, .xorAE, .xorAH, .xorAL, .xorAIndHL, .xorAA] := by decide
theorem test_grid_Bx : grid 0xB0 16 = List.map some
    [.orAB, .orAC, .orAD, .orAE, .orAH, .orAL, .orAIndHL, .orAA,
      .cpAB, .cpAC, .cpAD, .cpAE, .cpAH, .cpAL, .cpAIndHL, .cpAA] := by decide
theorem test_grid_Cx : grid 0xC0 16 = List.map some
    [.retNZ, .popBC, .jpNZnn 0x1234, .jpNn 0x1234, .callNZnn 0x1234, .pushBC, .addAn 0x34, .rst00,
      .retZ, .ret, .jpZnn 0x1234, .swapH, .callZnn 0x1234, .callNn 0x1234, .adcAn 0x34, .rst08] := by decide
theorem test_grid_Dx : grid 0xD0 16 = List.map some
    [.retNC, .popDE, .jpNCnn 0x1234, .undefined 0xD3, .callNCnn 0x1234, .pushDE, .subAn 0x34, .rst10,
      .retC, .reti, .jpCnn 0x1234, .undefined 0xDB, .callCnn 0x1234, .undefined 0xDD, .sbcAn 0x34, .rst18] := by decide
theorem test_grid_Ex : grid 0xE0 16 = List.map some
    [.ldhIndNA 0x34, .popHL, .ldIndCA, .undefined 0xE3, .undefined 0xE4, .pushHL, .andAn 0x34, .rst20,
      .addSPe 0x34, .jpHL, .ldIndNNA 0x1234, .undefined 0xEB, .undefined 0xEC, .undefined 0xED, .xorAn 0x34, .rst28] := by decide
theorem test_grid_Fx : grid 0xF0 16 = List.map some
    [.ldhAIndN 0x34, .popAF, .ldAIndC, .di, .undefined 0xF4, .pushAF, .orAn 0x34, .rst30,
      .ldHLSPe 0x34, .ldSPHL, .ldAIndNN 0x1234, .ei, .undefined 0xFC, .undefined 0xFD, .cpAn 0x34, .rst38] := by decide
theorem test_grid_CB_0x : gridCb 0x00 16 = List.map some
    [.rlcB, .rlcC, .rlcD, .rlcE, .rlcH, .rlcL, .rlcIndHL, .rlcA,
      .rrcB, .rrcC, .rrcD, .rrcE, .rrcH, .rrcL, .rrcIndHL, .rrcA] := by decide
theorem test_grid_CB_1x : gridCb 0x10 16 = List.map some
    [.rlB, .rlC, .rlD, .rlE, .rlH, .rlL, .rlIndHL, .rlA,
      .rrB, .rrC, .rrD, .rrE, .rrH, .rrL, .rrIndHL, .rrA] := by decide
theorem test_grid_CB_2x : gridCb 0x20 16 = List.map some
    [.slaB, .slaC, .slaD, .slaE, .slaH, .slaL, .slaIndHL, .slaA,
      .sraB, .sraC, .sraD, .sraE, .sraH, .sraL, .sraIndHL, .sraA] := by decide
theorem test_grid_CB_3x : gridCb 0x30 16 = List.map some
    [.swapB, .swapC, .swapD, .swapE, .swapH, .swapL, .swapIndHL, .swapA,
      .srlB, .srlC, .srlD, .srlE, .srlH, .srlL, .srlIndHL, .srlA] := by decide
theorem test_grid_CB_4x : gridCb 0x40 16 = List.map some
    [.bit0B, .bit0C, .bit0D, .bit0E, .bit0H, .bit0L, .bit0IndHL, .bit0A,
      .bit1B, .bit1C, .bit1D, .bit1E, .bit1H, .bit1L, .bit1IndHL, .bit1A] := by decide
theorem test_grid_CB_5x : gridCb 0x50 16 = List.map some
    [.bit2B, .bit2C, .bit2D, .bit2E, .bit2H, .bit2L, .bit2IndHL, .bit2A,
      .bit3B, .bit3C, .bit3D, .bit3E, .bit3H, .bit3L, .bit3IndHL, .bit3A] := by decide
theorem test_grid_CB_6x : gridCb 0x60 16 = List.map some
    [.bit4B, .bit4C, .bit4D, .bit4E, .bit4H, .bit4L, .bit4IndHL, .bit4A,
      .bit5B, .bit5C, .bit5D, .bit5E, .bit5H, .bit5L, .bit5IndHL, .bit5A] := by decide
theorem test_grid_CB_7x : gridCb 0x70 16 = List.map some
    [.bit6B, .bit6C, .bit6D, .bit6E, .bit6H, .bit6L, .bit6IndHL, .bit6A,
      .bit7B, .bit7C, .bit7D, .bit7E, .bit7H, .bit7L, .bit7IndHL, .bit7A] := by decide
theorem test_grid_CB_8x : gridCb 0x80 16 = List.map some
    [.res0B, .res0C, .res0D, .res0E, .res0H, .res0L, .res0IndHL, .res0A,
      .res1B, .res1C, .res1D, .res1E, .res1H, .res1L, .res1IndHL, .res1A] := by decide
theorem test_grid_CB_9x : gridCb 0x90 16 = List.map some
    [.res2B, .res2C, .res2D, .res2E, .res2H, .res2L, .res2IndHL, .res2A,
      .res3B, .res3C, .res3D, .res3E, .res3H, .res3L, .res3IndHL, .res3A] := by decide
theorem test_grid_CB_Ax : gridCb 0xA0 16 = List.map some
    [.res4B, .res4C, .res4D, .res4E, .res4H, .res4L, .res4IndHL, .res4A,
      .res5B, .res5C, .res5D, .res5E, .res5H, .res5L, .res5IndHL, .res5A] := by decide
theorem test_grid_CB_Bx : gridCb 0xB0 16 = List.map some
    [.res6B, .res6C, .res6D, .res6E, .res6H, .res6L, .res6IndHL, .res6A,
      .res7B, .res7C, .res7D, .res7E, .res7H, .res7L, .res7IndHL, .res7A] := by decide
theorem test_grid_CB_Cx : gridCb 0xC0 16 = List.map some
    [.set0B, .set0C, .set0D, .set0E, .set0H, .set0L, .set0IndHL, .set0A,
      .set1B, .set1C, .set1D, .set1E, .set1H, .set1L, .set1IndHL, .set1A] := by decide
theorem test_grid_CB_Dx : gridCb 0xD0 16 = List.map some
    [.set2B, .set2C, .set2D, .set2E, .set2H, .set2L, .set2IndHL, .set2A,
      .set3B, .set3C, .set3D, .set3E, .set3H, .set3L, .set3IndHL, .set3A] := by decide
theorem test_grid_CB_Ex : gridCb 0xE0 16 = List.map some
    [.set4B, .set4C, .set4D, .set4E, .set4H, .set4L, .set4IndHL, .set4A,
      .set5B, .set5C, .set5D, .set5E, .set5H, .set5L, .set5IndHL, .set5A] := by decide
theorem test_grid_CB_Fx : gridCb 0xF0 16 = List.map some
    [.set6B, .set6C, .set6D, .set6E, .set6H, .set6L, .set6IndHL, .set6A,
      .set7B, .set7C, .set7D, .set7E, .set7H, .set7L, .set7IndHL, .set7A] := by decide

/-- How many of the 64 opcode bytes from `n` on are of tier T1; R111 marks 160 of the 256. -/
def tierT1 (n : Nat) : Nat := ((List.range 64).filter fun k => !isTierT2 (BitVec.ofNat 8 (n + k))).length

theorem test_grid_tiers : (tierT1 0x00, tierT1 0x40, tierT1 0x80, tierT1 0xC0) = (44, 63, 32, 21) := by decide
theorem test_decode_bare_prefix : (match decode [0xCB] with | .ok (i, _) => some i | .error _ => none) = some .prefixCb := by decide
theorem test_decode_truncated : (match decode [0x01, 0x34] with | .ok (i, _) => some i | .error _ => none) = none := by decide
theorem test_table_word : decodeTableWord 8 0x78 = some .ldAB ∧ decodeTableWord 16 0x0036 = some (.ldIndHLn 0x00) ∧
    decodeTableWord 16 0x30CB = some .swapB ∧ decodeTableWord 24 0x1234C3 = some (.jpNn 0x1234) := by decide

/-! ## Test vectors of the spec -/

theorem test_V41_1 : after (start { base with flags := Flags.ofByte 0xF0 } [0x00] []) =
    some ⟨[0x01, 0xF0, 0x00, 0x13, 0x00, 0xD8, 0x01, 0x4D], 0xFFFE, 0x0101, 0, 4, []⟩ := by decide
theorem test_V41_2 : after (start { base with pc := 0xFFFF } [0x00] []) =
    some ⟨[0x01, 0xB0, 0x00, 0x13, 0x00, 0xD8, 0x01, 0x4D], 0xFFFE, 0x0000, 0, 4, []⟩ := by decide
theorem test_V41_3 : after (start { base with regs := { base.regs with b := 0x11, c := 0x22 } } [0x41] []) =
    some ⟨[0x01, 0xB0, 0x22, 0x22, 0x00, 0xD8, 0x01, 0x4D], 0xFFFE, 0x0101, 0, 4, []⟩ := by decide
theorem test_V41_4 : after (start { base with regs := { base.regs with a := 0x5A } } [0x7F] []) =
    some ⟨[0x5A, 0xB0, 0x00, 0x13, 0x00, 0xD8, 0x01, 0x4D], 0xFFFE, 0x0101, 0, 4, []⟩ := by decide
theorem test_V41_9 : after (start { base with pc := 0xFFFF } [0x06, 0xAB] []) =
    some ⟨[0x01, 0xB0, 0xAB, 0x13, 0x00, 0xD8, 0x01, 0x4D], 0xFFFE, 0x0001, 0, 8, []⟩ := by decide
theorem test_V41_11 : after (start { base with regs := { base.regs with h := 0xC0, l := 0x00 } } [0x66] [(0xC000, 0x12)]) =
    some ⟨[0x01, 0xB0, 0x00, 0x13, 0x00, 0xD8, 0x12, 0x00], 0xFFFE, 0x0101, 0, 8, []⟩ := by decide
theorem test_V41_15 : after (start { base with regs := { base.regs with h := 0xC1, l := 0x23 } } [0x74] []) =
    some ⟨[0x01, 0xB0, 0x00, 0x13, 0x00, 0xD8, 0xC1, 0x23], 0xFFFE, 0x0101, 0, 8, [(0xC123, 0xC1)]⟩ := by decide
theorem test_V41_18 : after (start { base with regs := { base.regs with h := 0xC2, l := 0x00 } } [0x36, 0x99] []) =
    some ⟨[0x01, 0xB0, 0x00, 0x13, 0x00, 0xD8, 0xC2, 0x00], 0xFFFE, 0x0102, 0, 12, [(0xC200, 0x99)]⟩ := by decide
theorem test_V42_1 : after (start base [0x01, 0x34, 0x12] []) =
    some ⟨[0x01, 0xB0, 0x12, 0x34, 0x00, 0xD8, 0x01, 0x4D], 0xFFFE, 0x0103, 0, 12, []⟩ := by decide
theorem test_V42_5 : after (start { base with pc := 0xFFFE } [0x31, 0xCD, 0xAB] []) =
    some ⟨[0x01, 0xB0, 0x00, 0x13, 0x00, 0xD8, 0x01, 0x4D], 0xABCD, 0x0001, 0, 12, []⟩ := by decide
theorem test_V42_6 : after (start { base with regs := { base.regs with b := 0xC1, c := 0x00 } } [0x0A] [(0xC100, 0x77)]) =
    some ⟨[0x77, 0xB0, 0xC1, 0x00, 0x00, 0xD8, 0x01, 0x4D], 0xFFFE, 0x0101, 0, 8, []⟩ := by decide
theorem test_V42_9 : after (start { base with regs := { base.regs with a := 0x22, d := 0xC1, e := 0x03 } } [0x12] []) =
    some ⟨[0x22, 0xB0, 0x00, 0x13, 0xC1, 0x03, 0x01, 0x4D], 0xFFFE, 0x0101, 0, 8, [(0xC103, 0x22)]⟩ := by decide
theorem test_V42_10 : after (start base [0xFA, 0x00, 0xC2] [(0xC200, 0x33)]) =
    some ⟨[0x33, 0xB0, 0x00, 0x13, 0x00, 0xD8, 0x01, 0x4D], 0xFFFE, 0x0103, 0, 16, []⟩ := by decide
theorem test_V42_11 : after (start { base with regs := { base.regs with a := 0x44 } } [0xEA, 0x01, 0xC2] []) =
    some ⟨[0x44, 0xB0, 0x00, 0x13, 0x00, 0xD8, 0x01, 0x4D], 0xFFFE, 0x0103, 0, 16, [(0xC201, 0x44)]⟩ := by decide
theorem test_V42_13 : after (start { base with sp := 0x1234 } [0x08, 0xFF, 0xFF] []) =
    some ⟨[0x01, 0xB0, 0x00, 0x13, 0x00, 0xD8, 0x01, 0x4D], 0x1234, 0x0103, 0, 20, [(0xFFFF, 0x34), (0x0000, 0x12)]⟩ := by decide
theorem test_V42_15 : after (start { base with regs := { base.regs with h := 0xFF, l := 0xFF } } [0x22] []) =
    some ⟨[0x01, 0xB0, 0x00, 0x13, 0x00, 0xD8, 0x00, 0x00], 0xFFFE, 0x0101, 0, 8, [(0xFFFF, 0x01)]⟩ := by decide
theorem test_V42_17 : after (start { base with regs := { base.regs with a := 0x02, h := 0x00, l := 0x00 } } [0x32] []) =
    some ⟨[0x02, 0xB0, 0x00, 0x13, 0x00, 0xD8, 0xFF, 0xFF], 0xFFFE, 0x0101, 0, 8, [(0x0000, 0x02)]⟩ := by decide
theorem test_V42_18 : after (start { base with regs := { base.regs with h := 0xC2, l := 0x00 } } [0x2A] [(0xC200, 0x55)]) =
    some ⟨[0x55, 0xB0, 0x00, 0x13, 0x00, 0xD8, 0xC2, 0x01], 0xFFFE, 0x0101, 0, 8, []⟩ := by decide
theorem test_V42_19 : after (start { base with regs := { base.regs with h := 0xC2, l := 0x00 } } [0x3A] [(0xC200, 0x55)]) =
    some ⟨[0x55, 0xB0, 0x00, 0x13, 0x00, 0xD8, 0xC1, 0xFF], 0xFFFE, 0x0101, 0, 8, []⟩ := by decide
theorem test_V42_20 : after (start { base with regs := { base.regs with a := 0x9C } } [0xE0, 0x80] []) =
    some ⟨[0x9C, 0xB0, 0x00, 0x13, 0x00, 0xD8, 0x01, 0x4D], 0xFFFE, 0x0102, 0, 12, [(0xFF80, 0x9C)]⟩ := by decide
theorem test_V42_21 : after (start base [0xF0, 0x80] [(0xFF80, 0x9C)]) =
    some ⟨[0x9C, 0xB0, 0x00, 0x13, 0x00, 0xD8, 0x01, 0x4D], 0xFFFE, 0x0102, 0, 12, []⟩ := by decide
theorem test_V42_23 : after (start { base with regs := { base.regs with a := 0x3D, c := 0x81 } } [0xE2] []) =
    some ⟨[0x3D, 0xB0, 0x00, 0x81, 0x00, 0xD8, 0x01, 0x4D], 0xFFFE, 0x0101, 0, 8, [(0xFF81, 0x3D)]⟩ := by decide
theorem test_V42_24 : after (start { base with regs := { base.regs with c := 0x81 } } [0xF2] [(0xFF81, 0x3D)]) =
    some ⟨[0x3D, 0xB0, 0x00, 0x81, 0x00, 0xD8, 0x01, 0x4D], 0xFFFE, 0x0101, 0, 8, []⟩ := by decide
theorem test_V42_25 : after (start { base with regs := { base.regs with h := 0xD0, l := 0x00 } } [0xF9] []) =
    some ⟨[0x01, 0xB0, 0x00, 0x13, 0x00, 0xD8, 0xD0, 0x00], 0xD000, 0x0101, 0, 8, []⟩ := by decide
theorem test_V43_1 : after (start { base with regs := { base.regs with b := 0xFF }, flags := Flags.ofByte 0x10 } [0x04] []) =
    some ⟨[0x01, 0xB0, 0x00, 0x13, 0x00, 0xD8, 0x01, 0x4D], 0xFFFE, 0x0101, 0, 4, []⟩ := by decide
theorem test_V43_5 : after (start { base with regs := { base.regs with h := 0xFF, l := 0xFF }, flags := Flags.ofByte 0x00 } [0x24] []) =
    some ⟨[0x01, 0xA0, 0x00, 0x13, 0x00, 0xD8, 0x00, 0xFF], 0xFFFE, 0x0101, 0, 4, []⟩ := by decide
theorem test_V43_7 : after (start { base with flags := Flags.ofByte 0x80 } [0x05] []) =
    some ⟨[0x01, 0x60, 0xFF, 0x13, 0x00, 0xD8, 0x01, 0x4D], 0xFFFE, 0x0101, 0, 4, []⟩ := by decide
theorem test_V43_9 : after (start { base with regs := { base.regs with l := 0x10 }, flags := Flags.ofByte 0x10 } [0x2D] []) =
    some ⟨[0x01, 0x70, 0x00, 0x13, 0x00, 0xD8, 0x01, 0x0F], 0xFFFE, 0x0101, 0, 4, []⟩ := by decide
theorem test_V43_12 : after (start { base with regs := { base.regs with h := 0xC0, l := 0x00 }, flags := Flags.ofByte 0xC0 } [0x34] [(0xC000, 0x4F)]) =
    some ⟨[0x01, 0x20, 0x00, 0x13, 0x00, 0xD8, 0xC0, 0x00], 0xFFFE, 0x0101, 0, 12, [(0xC000, 0x50)]⟩ := by decide
theorem test_V43_13 : after (start { base with regs := { base.regs with h := 0xC0, l := 0x00 }, flags := Flags.ofByte 0x00 } [0x35] [(0xC000, 0x00)]) =
    some ⟨[0x01, 0x60, 0x00, 0x13, 0x00, 0xD8, 0xC0, 0x00], 0xFFFE, 0x0101, 0, 12, [(0xC000, 0xFF)]⟩ := by decide
theorem test_V43_15 : after (start { base with regs := { base.regs with b := 0xFF, c := 0xFF }, flags := Flags.ofByte 0x00 } [0x03] []) =
    some ⟨[0x01, 0x00, 0x00, 0x00, 0x00, 0xD8, 0x01, 0x4D], 0xFFFE, 0x0101, 0, 8, []⟩ := by decide
theorem test_V43_19 : after (start { base with flags := Flags.ofByte 0x00, sp := 0xFFFF } [0x33] []) =
    some ⟨[0x01, 0x00, 0x00, 0x13, 0x00, 0xD8, 0x01, 0x4D], 0x0000, 0x0101, 0, 8, []⟩ := by decide
theorem test_V44_3 : after (start { base with regs := { base.regs with a := 0x0F, c := 0x01 }, flags := Flags.ofByte 0x10 } [0x81] []) =
    some ⟨[0x10, 0x20, 0x00, 0x01, 0x00, 0xD8, 0x01, 0x4D], 0xFFFE, 0x0101, 0, 4, []⟩ := by decide
theorem test_V44_9 : after (start { base with regs := { base.regs with a := 0x0F }, flags := Flags.ofByte 0x00 } [0x88] []) =
    some ⟨[0x0F, 0x00, 0x00, 0x13, 0x00, 0xD8, 0x01, 0x4D], 0xFFFE, 0x0101, 0, 4, []⟩ := by decide
theorem test_V44_12 : after (start { base with regs := { base.regs with a := 0xE1 }, flags := Flags.ofByte 0x10 } [0xCE, 0x3B] []) =
    some ⟨[0x1D, 0x10, 0x00, 0x13, 0x00, 0xD8, 0x01, 0x4D], 0xFFFE, 0x0102, 0, 8, []⟩ := by decide
theorem test_V44_16 : after (start { base with regs := { base.regs with a := 0x3E, h := 0xC0, l := 0x00 }, flags := Flags.ofByte 0x00 } [0x96] [(0xC000, 0x40)]) =
    some ⟨[0xFE, 0x50, 0x00, 0x13, 0x00, 0xD8, 0xC0, 0x00], 0xFFFE, 0x0101, 0, 8, []⟩ := by decide
theorem test_V44_20 : after (start { base with regs := { base.regs with a := 0x00, b := 0xFF }, flags := Flags.ofByte 0x10 } [0x98] []) =
    some ⟨[0x00, 0xF0, 0xFF, 0x13, 0x00, 0xD8, 0x01, 0x4D], 0xFFFE, 0x0101, 0, 4, []⟩ := by decide
theorem test_V44_23 : after (start { base with regs := { base.regs with a := 0x3B, h := 0xC0, l := 0x00 }, flags := Flags.ofByte 0x10 } [0x9E] [(0xC000, 0x4F)]) =
    some ⟨[0xEB, 0x70, 0x00, 0x13, 0x00, 0xD8, 0xC0, 0x00], 0xFFFE, 0x0101, 0, 8, []⟩ := by decide
theorem test_V44_25 : after (start { base with regs := { base.regs with a := 0x5A, b := 0x3F }, flags := Flags.ofByte 0x50 } [0xA0] []) =
    some ⟨[0x1A, 0x20, 0x3F, 0x13, 0x00, 0xD8, 0x01, 0x4D], 0xFFFE, 0x0101, 0, 4, []⟩ := by decide
theorem test_V44_30 : after (start { base with regs := { base.regs with a := 0x9D }, flags := Flags.ofByte 0x70 } [0xAF] []) =
    some ⟨[0x00, 0x80, 0x00, 0x13, 0x00, 0xD8, 0x01, 0x4D], 0xFFFE, 0x0101, 0, 4, []⟩ := by decide
theorem test_V44_35 : after (start { base with regs := { base.regs with a := 0x5A, c := 0x03 }, flags := Flags.ofByte 0x00 } [0xB1] []) =
    some ⟨[0x5B, 0x00, 0x00, 0x03, 0x00, 0xD8, 0x01, 0x4D], 0xFFFE, 0x0101, 0, 4, []⟩ := by decide
theorem test_V44_40 : after (start { base with regs := { base.regs with a := 0x3C, b := 0x40 }, flags := Flags.ofByte 0x00 } [0xB8] []) =
    some ⟨[0x3C, 0x50, 0x40, 0x13, 0x00, 0xD8, 0x01, 0x4D], 0xFFFE, 0x0101, 0, 4, []⟩ := by decide
theorem test_V44_43 : after (start { base with regs := { base.regs with a := 0x00 }, flags := Flags.ofByte 0x00 } [0xFE, 0x00] []) =
    some ⟨[0x00, 0xC0, 0x00, 0x13, 0x00, 0xD8, 0x01, 0x4D], 0xFFFE, 0x0102, 0, 8, []⟩ := by decide
theorem test_V45_2 : after (start { base with regs := { base.regs with c := 0x01, h := 0x0F, l := 0xFF }, flags := Flags.ofByte 0xD0 } [0x09] []) =
    some ⟨[0x01, 0xA0, 0x00, 0x01, 0x00, 0xD8, 0x10, 0x00], 0xFFFE, 0x0101, 0, 8, []⟩ := by decide
theorem test_V45_6 : after (start { base with regs := { base.regs with h := 0xFF, l := 0xFF }, flags := Flags.ofByte 0x00, sp := 0x0001 } [0x39] []) =
    some ⟨[0x01, 0x30, 0x00, 0x13, 0x00, 0xD8, 0x00, 0x00], 0x0001, 0x0101, 0, 8, []⟩ := by decide
theorem test_V45s_5 : after (start { base with flags := Flags.ofByte 0x00, sp := 0x0100 } [0xE8, 0xFF] []) =
    some ⟨[0x01, 0x00, 0x00, 0x13, 0x00, 0xD8, 0x01, 0x4D], 0x00FF, 0x0102, 0, 16, []⟩ := by decide
theorem test_V45s_6 : after (start { base with flags := Flags.ofByte 0x00, sp := 0x0100, params := { base.params with spDisp := .docLiteral } } [0xE8, 0xFF] []) =
    some ⟨[0x01, 0x30, 0x00, 0x13, 0x00, 0xD8, 0x01, 0x4D], 0x00FF, 0x0102, 0, 16, []⟩ := by decide
theorem test_V45s_25 : after (start { base with flags := Flags.ofByte 0x80, sp := 0x00FF } [0xF8, 0x01] []) =
    some ⟨[0x01, 0x30, 0x00, 0x13, 0x00, 0xD8, 0x01, 0x00], 0x00FF, 0x0102, 0, 12, []⟩ := by decide
theorem test_V45s_26 : after (start { base with flags := Flags.ofByte 0x80, sp := 0x00FF, params := { base.params with spDisp := .docLiteral } } [0xF8, 0x01] []) =
    some ⟨[0x01, 0x80, 0x00, 0x13, 0x00, 0xD8, 0x01, 0x00], 0x00FF, 0x0102, 0, 12, []⟩ := by decide
theorem test_V46_2 : after (start { base with regs := { base.regs with d := 0x12, e := 0x34 }, sp := 0x0001 } [0xD5] []) =
    some ⟨[0x01, 0xB0, 0x00, 0x13, 0x12, 0x34, 0x01, 0x4D], 0xFFFF, 0x0101, 0, 16, [(0x0000, 0x12), (0xFFFF, 0x34)]⟩ := by decide
theorem test_V46_5 : after (start { base with sp := 0xFFFF } [0xE1] [(0xFFFF, 0x34), (0x0000, 0x12)]) =
    some ⟨[0x01, 0xB0, 0x00, 0x13, 0x00, 0xD8, 0x12, 0x34], 0x0001, 0x0101, 0, 12, []⟩ := by decide
theorem test_V46_7 : after (start { base with regs := { base.regs with a := 0x12 }, flags := Flags.ofByte 0xA0, sp := 0xD000 } [0xF5] []) =
    some ⟨[0x12, 0xA0, 0x00, 0x13, 0x00, 0xD8, 0x01, 0x4D], 0xCFFE, 0x0101, 0, 16, [(0xCFFF, 0x12), (0xCFFE, 0xA0)]⟩ := by decide
theorem test_V46_10 : after (start { base with flags := Flags.ofByte 0x00, sp := 0xCFFE } [0xF1] [(0xCFFE, 0xFF), (0xCFFF, 0x34)]) =
    some ⟨[0x34, 0xF0, 0x00, 0x13, 0x00, 0xD8, 0x01, 0x4D], 0xD000, 0x0101, 0, 12, []⟩ := by decide
theorem test_V47_1 : after (start base [0xC3, 0x50, 0x01] []) =
    some ⟨[0x01, 0xB0, 0x00, 0x13, 0x00, 0xD8, 0x01, 0x4D], 0xFFFE, 0x0150, 0, 16, []⟩ := by decide
theorem test_V47_3 : after (start { base with flags := Flags.ofByte 0x00 } [0xCA, 0x00, 0x02] []) =
    some ⟨[0x01, 0x00, 0x00, 0x13, 0x00, 0xD8, 0x01, 0x4D], 0xFFFE, 0x0103, 0, 12, []⟩ := by decide
theorem test_V47_4 : after (start { base with flags := Flags.ofByte 0x80 } [0xCA, 0x00, 0x02] []) =
    some ⟨[0x01, 0x80, 0x00, 0x13, 0x00, 0xD8, 0x01, 0x4D], 0xFFFE, 0x0200, 0, 16, []⟩ := by decide
theorem test_V47_8 : after (start { base with regs := { base.regs with h := 0x40, l := 0x00 } } [0xE9] [(0x4000, 0x99)]) =
    some ⟨[0x01, 0xB0, 0x00, 0x13, 0x00, 0xD8, 0x40, 0x00], 0xFFFE, 0x4000, 0, 4, []⟩ := by decide
theorem test_V47_13 : after (start base [0x18, 0x80] []) =
    some ⟨[0x01, 0xB0, 0x00, 0x13, 0x00, 0xD8, 0x01, 0x4D], 0xFFFE, 0x0082, 0, 12, []⟩ := by decide
theorem test_V47_16 : after (start { base with flags := Flags.ofByte 0x00, pc := 0x0204 } [0x20, 0xFC] []) =
    some ⟨[0x01, 0x00, 0x00, 0x13, 0x00, 0xD8, 0x01, 0x4D], 0xFFFE, 0x0202, 0, 12, []⟩ := by decide
theorem test_V47_17 : after (start { base with flags := Flags.ofByte 0x80, pc := 0x0204 } [0x20, 0xFC] []) =
    some ⟨[0x01, 0x80, 0x00, 0x13, 0x00, 0xD8, 0x01, 0x4D], 0xFFFE, 0x0206, 0, 8, []⟩ := by decide
theorem test_V47_22 : after (start { base with sp := 0x0001 } [0xCD, 0x00, 0x20] []) =
    some ⟨[0x01, 0xB0, 0x00, 0x13, 0x00, 0xD8, 0x01, 0x4D], 0xFFFF, 0x2000, 0, 24, [(0x0000, 0x01), (0xFFFF, 0x03)]⟩ := by decide
theorem test_V47_25 : after (start { base with flags := Flags.ofByte 0x00, pc := 0x0150 } [0xDC, 0x00, 0x20] []) =
    some ⟨[0x01, 0x00, 0x00, 0x13, 0x00, 0xD8, 0x01, 0x4D], 0xFFFE, 0x0153, 0, 12, []⟩ := by decide
theorem test_V47_28 : after (start { base with sp := 0xFFFF } [0xC9] [(0xFFFF, 0x34), (0x0000, 0x12)]) =
    some ⟨[0x01, 0xB0, 0x00, 0x13, 0x00, 0xD8, 0x01, 0x4D], 0x0001, 0x1234, 0, 16, []⟩ := by decide
theorem test_V47_29 : after (start { base with flags := Flags.ofByte 0x80, sp := 0xFFFC } [0xC8] [(0xFFFC, 0x53), (0xFFFD, 0x01)]) =
    some ⟨[0x01, 0x80, 0x00, 0x13, 0x00, 0xD8, 0x01, 0x4D], 0xFFFE, 0x0153, 0, 20, []⟩ := by decide
theorem test_V47_30 : after (start { base with flags := Flags.ofByte 0x00, sp := 0xFFFC } [0xC8] [(0xFFFC, 0x53), (0xFFFD, 0x01)]) =
    some ⟨[0x01, 0x00, 0x00, 0x13, 0x00, 0xD8, 0x01, 0x4D], 0xFFFC, 0x0101, 0, 8, []⟩ := by decide
theorem test_V47_33 : after (start { base with sp := 0xCFFE } [0xD9] [(0xCFFE, 0x0F), (0xCFFF, 0x01)]) =
    some ⟨[0x01, 0xB0, 0x00, 0x13, 0x00, 0xD8, 0x01, 0x4D], 0xD000, 0x010F, 1, 16, []⟩ := by decide
theorem test_V47_37 : after (start { base with sp := 0xD000, pc := 0xFFFF } [0xFF] []) =
    some ⟨[0x01, 0xB0, 0x00, 0x13, 0x00, 0xD8, 0x01, 0x4D], 0xCFFE, 0x0038, 0, 16, [(0xCFFF, 0x00), (0xCFFE, 0x00)]⟩ := by decide
theorem test_V48_2 : after (start { base with regs := { base.regs with a := 0x00 }, flags := Flags.ofByte 0xF0 } [0x07] []) =
    some ⟨[0x00, 0x00, 0x00, 0x13, 0x00, 0xD8, 0x01, 0x4D], 0xFFFE, 0x0101, 0, 4, []⟩ := by decide
theorem test_V48_3 : after (start { base with flags := Flags.ofByte 0x80 } [0x0F] []) =
    some ⟨[0x80, 0x10, 0x00, 0x13, 0x00, 0xD8, 0x01, 0x4D], 0xFFFE, 0x0101, 0, 4, []⟩ := by decide
theorem test_V48_6 : after (start { base with regs := { base.regs with a := 0x95 }, flags := Flags.ofByte 0x10 } [0x17] []) =
    some ⟨[0x2B, 0x10, 0x00, 0x13, 0x00, 0xD8, 0x01, 0x4D], 0xFFFE, 0x0101, 0, 4, []⟩ := by decide
theorem test_V48_7 : after (start { base with flags := Flags.ofByte 0x10 } [0x1F] []) =
    some ⟨[0x80, 0x10, 0x00, 0x13, 0x00, 0xD8, 0x01, 0x4D], 0xFFFE, 0x0101, 0, 4, []⟩ := by decide
theorem test_V48_11 : after (start { base with regs := { base.regs with a := 0x4B }, flags := Flags.ofByte 0x60 } [0x27] []) =
    some ⟨[0x45, 0x40, 0x00, 0x13, 0x00, 0xD8, 0x01, 0x4D], 0xFFFE, 0x0101, 0, 4, []⟩ := by decide
theorem test_V48_14 : after (start { base with regs := { base.regs with a := 0x92 }, flags := Flags.ofByte 0x20 } [0x27] []) =
    some ⟨[0x98, 0x00, 0x00, 0x13, 0x00, 0xD8, 0x01, 0x4D], 0xFFFE, 0x0101, 0, 4, []⟩ := by decide
theorem test_V48_17 : after (start { base with regs := { base.regs with a := 0x35 }, flags := Flags.ofByte 0x90 } [0x2F] []) =
    some ⟨[0xCA, 0xF0, 0x00, 0x13, 0x00, 0xD8, 0x01, 0x4D], 0xFFFE, 0x0101, 0, 4, []⟩ := by decide
theorem test_V48_18 : after (start { base with flags := Flags.ofByte 0xE0 } [0x37] []) =
    some ⟨[0x01, 0x90, 0x00, 0x13, 0x00, 0xD8, 0x01, 0x4D], 0xFFFE, 0x0101, 0, 4, []⟩ := by decide
theorem test_V48_19 : after (start { base with flags := Flags.ofByte 0xF0 } [0x3F] []) =
    some ⟨[0x01, 0x80, 0x00, 0x13, 0x00, 0xD8, 0x01, 0x4D], 0xFFFE, 0x0101, 0, 4, []⟩ := by decide
theorem test_V48_21 : after (start { base with pc := 0x0200 } [0x76] []) =
    some ⟨[0x01, 0xB0, 0x00, 0x13, 0x00, 0xD8, 0x01, 0x4D], 0xFFFE, 0x0201, 4, 4, []⟩ := by decide
theorem test_V48_23 : refusal (start { base with pc := 0x0150 } [0x10, 0x00] []) =
    some (.stopNotModelled 0x10) := by decide
theorem test_V48_24 : after (start { base with pc := 0x0150, params := { base.params with stop := .stopped } } [0x10, 0x00] []) =
    some ⟨[0x01, 0xB0, 0x00, 0x13, 0x00, 0xD8, 0x01, 0x4D], 0xFFFE, 0x0152, 8, 4, []⟩ := by decide
theorem test_V48_26 : after (start { base with ime := true } [0xF3] []) =
    some ⟨[0x01, 0xB0, 0x00, 0x13, 0x00, 0xD8, 0x01, 0x4D], 0xFFFE, 0x0101, 0, 4, []⟩ := by decide
theorem test_V48_27 : after (start base [0xFB] []) =
    some ⟨[0x01, 0xB0, 0x00, 0x13, 0x00, 0xD8, 0x01, 0x4D], 0xFFFE, 0x0101, 2, 4, []⟩ := by decide
theorem test_V48_31 : after (start { base with regs := { base.regs with a := 0xF1 }, flags := Flags.ofByte 0xF0 } [0xCB, 0x37] []) =
    some ⟨[0x1F, 0x00, 0x00, 0x13, 0x00, 0xD8, 0x01, 0x4D], 0xFFFE, 0x0102, 0, 8, []⟩ := by decide
theorem test_V48_32 : refusal (start { base with regs := { base.regs with a := 0xF1 }, params := { base.params with cbExt := .refuse } } [0xCB, 0x37] []) =
    some (.cbExtensionExternal 0xCB) := by decide
theorem test_V48_34 : faulted (start { base with flags := Flags.ofByte 0x60, pc := 0x0150 } [0xD3] []) =
    some (0xD3, 0x0150, ⟨[0x01, 0x60, 0x00, 0x13, 0x00, 0xD8, 0x01, 0x4D], 0xFFFE, 0x0151, 0, 0, []⟩) := by decide
theorem test_V48_46 : faulted (start { base with pc := 0xFFFF } [0xED] []) =
    some (0xED, 0xFFFF, ⟨[0x01, 0xB0, 0x00, 0x13, 0x00, 0xD8, 0x01, 0x4D], 0xFFFE, 0x0000, 0, 0, []⟩) := by decide
theorem test_V49_2 : after (start { base with regs := { base.regs with a := 0x00 }, flags := Flags.ofByte 0x70 } [0xCB, 0x07] []) =
    some ⟨[0x00, 0x80, 0x00, 0x13, 0x00, 0xD8, 0x01, 0x4D], 0xFFFE, 0x0102, 0, 8, []⟩ := by decide
theorem test_V49_3 : after (start { base with regs := { base.regs with h := 0xC0, l := 0x00 }, flags := Flags.ofByte 0x00 } [0xCB, 0x06] [(0xC000, 0x80)]) =
    some ⟨[0x01, 0x10, 0x00, 0x13, 0x00, 0xD8, 0xC0, 0x00], 0xFFFE, 0x0102, 0, 16, [(0xC000, 0x01)]⟩ := by decide
theorem test_V49_4 : after (start { base with regs := { base.regs with c := 0x01 }, flags := Flags.ofByte 0x00 } [0xCB, 0x09] []) =
    some ⟨[0x01, 0x10, 0x00, 0x80, 0x00, 0xD8, 0x01, 0x4D], 0xFFFE, 0x0102, 0, 8, []⟩ := by decide
theorem test_V49_7 : after (start { base with regs := { base.regs with d := 0x11 }, flags := Flags.ofByte 0x10 } [0xCB, 0x12] []) =
    some ⟨[0x01, 0x00, 0x00, 0x13, 0x23, 0xD8, 0x01, 0x4D], 0xFFFE, 0x0102, 0, 8, []⟩ := by decide
theorem test_V49_10 : after (start { base with regs := { base.regs with e := 0x8A }, flags := Flags.ofByte 0x10 } [0xCB, 0x1B] []) =
    some ⟨[0x01, 0x00, 0x00, 0x13, 0x00, 0xC5, 0x01, 0x4D], 0xFFFE, 0x0102, 0, 8, []⟩ := by decide
theorem test_V49_13 : after (start { base with regs := { base.regs with a := 0xFF }, flags := Flags.ofByte 0x00 } [0xCB, 0x27] []) =
    some ⟨[0xFE, 0x10, 0x00, 0x13, 0x00, 0xD8, 0x01, 0x4D], 0xFFFE, 0x0102, 0, 8, []⟩ := by decide
theorem test_V49_16 : after (start { base with flags := Flags.ofByte 0x00 } [0xCB, 0x2F] []) =
    some ⟨[0x00, 0x90, 0x00, 0x13, 0x00, 0xD8, 0x01, 0x4D], 0xFFFE, 0x0102, 0, 8, []⟩ := by decide
theorem test_V49_20 : after (start { base with regs := { base.regs with h := 0xC0, l := 0x00 }, flags := Flags.ofByte 0x10 } [0xCB, 0x36] [(0xC000, 0x5A)]) =
    some ⟨[0x01, 0x00, 0x00, 0x13, 0x00, 0xD8, 0xC0, 0x00], 0xFFFE, 0x0102, 0, 16, [(0xC000, 0xA5)]⟩ := by decide
theorem test_V49_23 : after (start { base with regs := { base.regs with h := 0xC0, l := 0x00 }, flags := Flags.ofByte 0x00 } [0xCB, 0x3E] [(0xC000, 0x80)]) =
    some ⟨[0x01, 0x00, 0x00, 0x13, 0x00, 0xD8, 0xC0, 0x00], 0xFFFE, 0x0102, 0, 16, [(0xC000, 0x40)]⟩ := by decide
theorem test_V49_24 : after (start { base with regs := { base.regs with h := 0x80 }, flags := Flags.ofByte 0xD0 } [0xCB, 0x7C] []) =
    some ⟨[0x01, 0x30, 0x00, 0x13, 0x00, 0xD8, 0x80, 0x4D], 0xFFFE, 0x0102, 0, 8, []⟩ := by decide
theorem test_V49_27 : after (start { base with regs := { base.regs with h := 0xC0, l := 0x00 }, flags := Flags.ofByte 0x10 } [0xCB, 0x76] [(0xC000, 0xBF)]) =
    some ⟨[0x01, 0xB0, 0x00, 0x13, 0x00, 0xD8, 0xC0, 0x00], 0xFFFE, 0x0102, 0, 12, []⟩ := by decide
theorem test_V49_28 : after (start { base with regs := { base.regs with a := 0xFF }, flags := Flags.ofByte 0xF0 } [0xCB, 0x87] []) =
    some ⟨[0xFE, 0xF0, 0x00, 0x13, 0x00, 0xD8, 0x01, 0x4D], 0xFFFE, 0x0102, 0, 8, []⟩ := by decide
theorem test_V49_30 : after (start { base with regs := { base.regs with h := 0xC0, l := 0x00 } } [0xCB, 0xBE] [(0xC000, 0xFF)]) =
    some ⟨[0x01, 0xB0, 0x00, 0x13, 0x00, 0xD8, 0xC0, 0x00], 0xFFFE, 0x0102, 0, 16, [(0xC000, 0x7F)]⟩ := by decide
theorem test_V49_32 : after (start { base with regs := { base.regs with e := 0x00 } } [0xCB, 0xCB] []) =
    some ⟨[0x01, 0xB0, 0x00, 0x13, 0x00, 0x02, 0x01, 0x4D], 0xFFFE, 0x0102, 0, 8, []⟩ := by decide
theorem test_V49_33 : after (start { base with regs := { base.regs with h := 0xC0, l := 0x00 } } [0xCB, 0xFE] [(0xC000, 0x00)]) =
    some ⟨[0x01, 0xB0, 0x00, 0x13, 0x00, 0xD8, 0xC0, 0x00], 0xFFFE, 0x0102, 0, 16, [(0xC000, 0x80)]⟩ := by decide
theorem test_V60_1 : after (start { base with sp := 0xD000, pc := 0x1234, ime := true, params := { base.params with irq := .canonical } } [0x00] [(0xFFFF, 0x1F), (0xFF0F, 0x14)]) =
    some ⟨[0x01, 0xB0, 0x00, 0x13, 0x00, 0xD8, 0x01, 0x4D], 0xCFFE, 0x0050, 0, 20, [(0xCFFF, 0x12), (0xCFFE, 0x34), (0xFF0F, 0x10)]⟩ := by decide
theorem test_V60_3 : after (start { base with sp := 0xD000, pc := 0x1234, ime := true, params := { base.params with irq := .canonical } } [0x00] [(0xFFFF, 0x0B), (0xFF0F, 0x14)]) =
    some ⟨[0x01, 0xB0, 0x00, 0x13, 0x00, 0xD8, 0x01, 0x4D], 0xD000, 0x1235, 1, 4, []⟩ := by decide
theorem test_V60_5 : after (start { base with sp := 0xD000, pc := 0x1234, ime := true, params := { base.params with irq := .canonical } } [0x00] [(0xFFFF, 0x10), (0xFF0F, 0x1F)]) =
    some ⟨[0x01, 0xB0, 0x00, 0x13, 0x00, 0xD8, 0x01, 0x4D], 0xCFFE, 0x0060, 0, 20, [(0xCFFF, 0x12), (0xCFFE, 0x34), (0xFF0F, 0x0F)]⟩ := by decide
theorem test_V60_7 : after (start { base with sp := 0xD000, pc := 0x1234, ime := true, params := { base.params with irq := .canonical } } [0xDD] [(0xFFFF, 0x01), (0xFF0F, 0x01)]) =
    some ⟨[0x01, 0xB0, 0x00, 0x13, 0x00, 0xD8, 0x01, 0x4D], 0xCFFE, 0x0040, 0, 20, [(0xCFFF, 0x12), (0xCFFE, 0x34), (0xFF0F, 0x00)]⟩ := by decide
theorem test_V60_9 : after (start { base with flags := Flags.ofByte 0x00, pc := 0x0201, halted := true, params := { base.params with irq := .canonical } } [0x3C] [(0xFFFF, 0x04), (0xFF0F, 0x04)]) =
    some ⟨[0x02, 0x00, 0x00, 0x13, 0x00, 0xD8, 0x01, 0x4D], 0xFFFE, 0x0202, 0, 4, []⟩ := by decide
theorem test_V60_10 : after (start { base with sp := 0xD000, pc := 0x0201, ime := true, halted := true, params := { base.params with irq := .canonical } } [0x3C] [(0xFFFF, 0x04), (0xFF0F, 0x04)]) =
    some ⟨[0x01, 0xB0, 0x00, 0x13, 0x00, 0xD8, 0x01, 0x4D], 0xCFFE, 0x0050, 0, 20, [(0xCFFF, 0x02), (0xCFFE, 0x01), (0xFF0F, 0x00)]⟩ := by decide
theorem test_V60_11 : after (start { base with pc := 0x0201, ime := true, halted := true, params := { base.params with irq := .canonical } } [0x3C] [(0xFFFF, 0x01), (0xFF0F, 0x04)]) =
    some ⟨[0x01, 0xB0, 0x00, 0x13, 0x00, 0xD8, 0x01, 0x4D], 0xFFFE, 0x0201, 5, 4, []⟩ := by decide
theorem test_V60_16 : refusal (start { base with pc := 0x0200, params := { base.params with irq := .canonical } } [0x76, 0x3C] [(0xFFFF, 0x01), (0xFF0F, 0x01)]) =
    some (.haltBugNotModelled 0x76) := by decide
theorem test_V30_1 : refusal (start { base with params := { base.params with profile := .core } } [0xC3, 0x50, 0x01] []) =
    some (.notSpecifiedBySource 0xC3) := by decide
theorem test_V30_6 : after (start { base with regs := { base.regs with b := 0x02 }, flags := Flags.ofByte 0x00, params := { base.params with profile := .core } } [0x80] []) =
    some ⟨[0x03, 0x00, 0x02, 0x13, 0x00, 0xD8, 0x01, 0x4D], 0xFFFE, 0x0101, 0, 4, []⟩ := by decide
theorem test_A_5 : accesses (start { base with sp := 0xABCD } [0x08, 0x00, 0xC1] []) =
    [.read 0x0100 0x08, .read 0x0101 0x00, .read 0x0102 0xC1, .write 0xC100 0xCD, .write 0xC101 0xAB] := by decide
theorem test_A_7 : accesses (start { base with regs := { base.regs with h := 0xC0, l := 0x00 } } [0x34] [(0xC000, 0x4F)]) =
    [.read 0x0100 0x34, .read 0xC000 0x4F, .write 0xC000 0x50] := by decide
theorem test_A_13 : accesses (start base [0xCD, 0x00, 0x20] []) =
    [.read 0x0100 0xCD, .read 0x0101 0x00, .read 0x0102 0x20, .write 0xFFFD 0x01, .write 0xFFFC 0x03] := by decide
theorem test_A_23 : accesses (start { base with sp := 0xD000, pc := 0x1234, ime := true, params := { base.params with irq := .canonical } } [0x00] [(0xFFFF, 0x1F), (0xFF0F, 0x14)]) =
    [.read 0xFFFF 0x1F, .read 0xFF0F 0x14, .write 0xCFFF 0x12, .write 0xCFFE 0x34, .write 0xFF0F 0x10] := by decide
theorem test_A_25 : accesses (start { base with pc := 0x0200, ime := true, params := { base.params with irq := .canonical } } [0x76] [(0xFFFF, 0x01), (0xFF0F, 0x00)]) =
    [.read 0xFFFF 0x01, .read 0xFF0F 0x00, .read 0x0200 0x76, .read 0xFFFF 0x01, .read 0xFF0F 0x00] := by decide

/-! ## Memory, mirrors, and a word placed for the next step -/

/-- The base state with a read-only region from 0x0000, a normal one from 0x8000, an external one from 0xA000, one from
0xE000 that mirrors 0xC000, two addresses that mirror read-only and external ones, and a normal rest. -/
def banked : State :=
  { base with params := { base.params with
      regions := [⟨0x0000, 0x8000, .readOnly⟩, ⟨0x8000, 0x2000, .normal⟩, ⟨0xA000, 0x2000, .external⟩,
        ⟨0xE000, 0x1E00, .mirror 0xC000⟩, ⟨0xFE00, 1, .mirror 0x7FFF⟩, ⟨0xFE01, 1, .mirror 0xBFFF⟩] } }

theorem test_store_read_only : (banked.store 0x7FFF 0x11) = banked ∧ (banked.store 0x8000 0x11).peek 0x8000 = 0x11 := by
  decide
theorem test_store_mirror : (banked.store 0xFDFF 0x22).peek 0xDDFF = 0x22 ∧ (banked.store 0xC000 0x33).peek 0xE000 = 0x33 ∧
    (banked.store 0xFE02 0x44).peek 0xDE02 = 0x00 := by decide
/-- A write to an external region, or to a mirror of one, is delivered and leaves the cells alone. -/
theorem test_store_external : (banked.store 0xA000 0x11).mem = [] ∧ (banked.store 0xFE01 0x11).mem = [] ∧
    writable banked.params.regions 0xFE01 = true ∧ writable banked.params.regions 0xFE00 = false ∧
    (banked.store 0xC000 0x11).mem = [(0xC000, 0x11)] := by decide
/-- LD A,(nn) at an external address: the collaborator's byte, and the collaborator's state after the read. -/
theorem test_external_read : (match exec (.ldAIndNN 0xBFFF) banked with
      | .next t => (t.reg .A, t.device)
      | _ => (0, 0)) = Config.externalRead 0 0xBFFF := by rfl
/-- The reads of IE and IF have no side effect where the core samples requests (R441). -/
theorem test_request_reads : let p : Params := { base.params with regions := [⟨0, 65536, .external⟩] }
    readDevice { p with irq := .canonical } 7 0xFFFF = 7 ∧ readDevice { p with irq := .canonical } 7 0xFF0F = 7 ∧
    readDevice p 7 0xFF0F = (Config.externalRead 7 0xFF0F).2 := ⟨rfl, rfl, rfl⟩
theorem test_memory_canonical : Memory.write (Memory.write (Memory.write [] 5 0x01) 3 0x02) 5 Memory.unlisted = [(3, 0x02)] := by
  decide
theorem test_fetch_word : after (State.reset.withFetchWord 24 0x1234C3) =
    some ⟨registers State.reset, 0xFFFE, 0x1234, 0, 16, []⟩ := by decide
theorem test_fetch_word_wakes :
    after ({ base with halted := true, stopped := true, haltBug := true, pc := 0xFFFF }.withFetchWord 16 0x423E) =
    some ⟨[0x42, 0xB0, 0x00, 0x13, 0x00, 0xD8, 0x01, 0x4D], 0xFFFE, 0x0001, 0, 8, []⟩ := by decide

/-! ## Witnesses: states and operands that meet the hypotheses of the statements -/

/-- The base state with interrupts sampled, every source requested and enabled. -/
def requested : State :=
  start { base with sp := 0xD000, params := { base.params with irq := .canonical } } [0x00]
    [(0xFFFF, 0x1F), (0xFF0F, 0x1F)]

/-- The base state under PROFILE = CORE. -/
def coreBase : State := { base with params := { base.params with profile := .core } }

theorem witness_DecodeEncodeRoundTrip : Instr.wf .nop = true ∧ Instr.wf (.undefined 0xED) = true ∧ Instr.wf (.jpNn 0xFFFF) = true := by
  decide

theorem witness_FirstByteFixesLength : Instr.rlcB.wf = true ∧ Instr.rlcB ≠ .prefixCb ∧ Instr.set7A.wf = true ∧
    Instr.set7A ≠ .prefixCb ∧ (encode .set7A).head? = (encode .rlcB).head? := by decide

theorem witness_UndefinedBytesAreEleven :
    (0xD3 : Byte) ∈ undefinedOpcodes ∧ (0xFD : Byte) ∈ undefinedOpcodes ∧ (0xD2 : Byte) ∉ undefinedOpcodes ∧
    (0xFE : Byte) ∉ undefinedOpcodes := by decide

/-- The base state under CB_EXT = refuse. -/
def noCb : State := { base with params := { base.params with cbExt := .refuse } }

theorem witness_PrefixCbRunsSubOpcode : base.params.cbExt = .table ∧ noCb.params.cbExt = .refuse ∧
    RunsNext (start noCb [0xCB] []) ∧ (start noCb [0xCB] []).peek 0x0100 = 0xCB ∧
    refusal (start noCb [0xCB] []) = some (.cbExtensionExternal 0xCB) :=
  ⟨rfl, rfl, ⟨rfl, rfl, by decide⟩, by decide, by decide⟩

/-- With requests pending, IME clear lets the instruction run; with IME set, none may be pending. -/
theorem witness_RunsNext : RunsNext requested ∧ RunsNext { requested with ime := true, mem := [] } :=
  ⟨⟨rfl, rfl, by decide⟩, ⟨rfl, rfl, by decide⟩⟩

/-- The hypotheses of StepRunsDecoded for a state and an instruction. -/
def runsDecoded (s : State) (i : Instr) (rest : List Byte) : Prop :=
  (match decode (bytesFrom s s.pc 3) with
    | .ok r => some r
    | .error _ => none) = some (i, rest) ∧ RunsNext s ∧ s.haltBug = false ∧
  (s.params.profile = .core → isTierT2 (s.peek s.pc) = false) ∧ (s.params.cbExt = .refuse → s.peek s.pc ≠ 0xCB)

theorem witness_StepRunsDecoded_next : runsDecoded (start { base with pc := 0xFFFF } [0x3E, 0x42] []) (.ldAn 0x42) [0x00] := by
  refine ⟨?_, ⟨rfl, rfl, ?_⟩, ?_, ?_, ?_⟩ <;> decide
theorem witness_StepRunsDecoded_fault : runsDecoded (start coreBase [0xDD] []) (.undefined 0xDD) [0x00, 0x00] := by
  refine ⟨?_, ⟨rfl, rfl, ?_⟩, ?_, ?_, ?_⟩ <;> decide
theorem witness_StepRunsDecoded_refused : runsDecoded (start base [0x10, 0x00] []) (.stop 0x00) [0x00] := by
  refine ⟨?_, ⟨rfl, rfl, ?_⟩, ?_, ?_, ?_⟩ <;> decide

/-- A halted core with a request that is not enabled, and one that samples none. -/
theorem witness_IdleStepsChangeNothing : base.params.profile = .full ∧ base.stopped = false ∧ base.params.irq = .none ∧
    (requested.store 0xFFFF 0xE0).params.irq = .canonical ∧ (requested.store 0xFFFF 0xE0).stopped = false ∧
    pendingRequests { requested.store 0xFFFF 0xE0 with halted := true } = 0 := by decide

theorem witness_WakeFromHaltRunsNext : requested.params.profile = .full ∧ requested.stopped = false ∧ { requested with halted := true }.ime = false ∧
    pendingRequests { requested with halted := true } ≠ 0 ∧ requested.params.irq = .canonical ∧
    after { requested with halted := true } = some ⟨registers base, 0xD000, 0x0101, 0, 4, []⟩ ∧
    faulted (start { requested with halted := true } [0xDD] []) =
      some (0xDD, 0x0100, ⟨registers base, 0xD000, 0x0101, 4, 0, []⟩) := by decide

/-- The hypotheses of InterruptEntryTakesLowest for a state and a source. -/
def entersInterrupt (s : State) (k : Nat) : Prop :=
  s.params.profile = .full ∧ s.params.irq = .canonical ∧ s.stopped = false ∧ s.ime = true ∧ k < 5 ∧
  (pendingRequests s).getLsbD k = true ∧ ∀ j, j < k → (pendingRequests s).getLsbD j = false

theorem witness_InterruptEntryTakesLowest_lowest : entersInterrupt { requested with ime := true } 0 := by
  refine ⟨?_, ?_, ?_, ?_, ?_, ?_, ?_⟩ <;> decide
theorem witness_InterruptEntryTakesLowest_highest : entersInterrupt { requested.store 0xFF0F 0xF0 with ime := true } 4 := by
  refine ⟨?_, ?_, ?_, ?_, ?_, ?_, ?_⟩ <;> decide

theorem witness_EiTakesEffectOneInstructionLate : base.params.profile = .full ∧ after { base with eiDelay := true } =
      some ⟨registers base, 0xFFFE, 0x0101, 1, 4, []⟩ ∧
    after (start { base with eiDelay := true } [0xF3] []) = some ⟨registers base, 0xFFFE, 0x0101, 0, 4, []⟩ := by decide

/-- The hypotheses of HaltBugFetchHoldsPc for the bytes at 0x0100. -/
def heldBackAt (code : List Byte) (i : Instr) (rest : List Byte) : Prop :=
  let s := start { base with haltBug := true } code []
  s.params.profile = .full ∧ s.haltBug = true ∧ RunsNext s ∧ (s.params.cbExt = .refuse → s.peek s.pc ≠ 0xCB) ∧
  (match decode (s.peek s.pc :: bytesFrom (s.afterRead s.pc) s.pc 2) with
    | .ok r => some r
    | .error _ => none) = some (i, rest)

/-- With halt_bug set: no operand byte, one, two, the CB prefix, an undefined opcode. The opcode byte is read again as
the first operand byte. -/
theorem witness_HaltBugFetchHoldsPc : heldBackAt [0x3C] .incA [0x3C, 0x00] ∧ heldBackAt [0x3E] (.ldAn 0x3E) [0x00] ∧
    heldBackAt [0x21, 0x12] (.ldHLnn 0x1221) [] ∧ heldBackAt [0xCB] .set1E [0x00] ∧
    heldBackAt [0xDD] (.undefined 0xDD) [0xDD, 0x00] := by
  refine ⟨⟨?_, ?_, ⟨rfl, rfl, ?_⟩, ?_, ?_⟩, ⟨?_, ?_, ⟨rfl, rfl, ?_⟩, ?_, ?_⟩, ⟨?_, ?_, ⟨rfl, rfl, ?_⟩, ?_, ?_⟩,
    ⟨?_, ?_, ⟨rfl, rfl, ?_⟩, ?_, ?_⟩, ⟨?_, ?_, ⟨rfl, rfl, ?_⟩, ?_, ?_⟩⟩ <;> decide
theorem witness_HaltBugFetchHoldsPc_next : after (start { base with haltBug := true } [0x3C] []) =
      some ⟨[0x02, 0x10, 0x00, 0x13, 0x00, 0xD8, 0x01, 0x4D], 0xFFFE, 0x0100, 0, 4, []⟩ ∧
    after (start { base with haltBug := true } [0x21, 0x12] []) =
      some ⟨[0x01, 0xB0, 0x00, 0x13, 0x00, 0xD8, 0x12, 0x21], 0xFFFE, 0x0102, 0, 12, []⟩ := by decide
theorem witness_HaltBugFetchHoldsPc_fault : faulted (start { base with haltBug := true } [0xDD] []) =
      some (0xDD, 0x0100, ⟨registers base, 0xFFFE, 0x0101, 16, 0, []⟩) := by decide

/-- A handler invoked directly, the gate in force, and a step in each profile. -/
theorem witness_StepIsDirectInvocationAfterFetch :
    (match execOpcode 0x3E (start base [0x42] []) with
      | .next t => (t.reg .A, t.pc)
      | _ => (0, 0)) = (0x42, 0x0101) ∧
    (match execOpcode 0x34 coreBase with
      | .refused r => some r
      | _ => none) = some (.notSpecifiedBySource 0x34) ∧
    isTierT2 0x34 = true ∧ isTierT2 0xDD = false ∧ coreBase.params.profile = .core ∧
    RunsNext base ∧ RunsNext coreBase ∧ base.haltBug = false ∧ coreBase.haltBug = false :=
  ⟨by decide, by decide, by decide, by decide, rfl, ⟨rfl, rfl, by decide⟩, ⟨rfl, rfl, by decide⟩, rfl, rfl⟩

theorem witness_ProfileGateByTier : coreBase.params.profile = .core ∧ isTierT2 0x34 = true ∧ isTierT2 (coreBase.peek coreBase.pc) = false ∧
    base.params.profile = .full := by decide

/-- The hypotheses of InvKeptByStep, from each side of the invariant. -/
theorem witness_InvKeptByStep : ({ base with halted := true } : State).Inv ∧ coreBase.Inv ∧
    ({ base with haltBug := true, params := { base.params with irq := .canonical, haltBug := .canonical } } : State).Inv := by
  refine ⟨⟨rfl, ?_, ?_, ?_, ?_⟩, ⟨rfl, ?_, ?_, ?_, ?_⟩, ⟨rfl, ?_, ?_, ?_, ?_⟩⟩ <;> decide
theorem witness_InvKeptByStep_completes : (after { base with halted := true }).isSome = true ∧ (after coreBase).isSome = true := by
  decide

theorem witness_SafeRunKeepsInvAndParams : base.Inv ∧ (∃ t, SafeRun 0 base t) ∧ ∃ t, SafeRun 2 base t :=
  ⟨⟨rfl, by decide, by decide, by decide, by decide⟩, ⟨base, rfl⟩, ⟨_, rfl⟩⟩

/-- LD (HL),n to a read-only address completes. -/
theorem witness_ReadOnlyNeverChanges : writable banked.params.regions 0x7FFF = false ∧
    after (start { banked with regs := { banked.regs with h := 0x7F, l := 0xFF } } [0x36, 0x99] []) =
      some ⟨[0x01, 0xB0, 0x00, 0x13, 0x00, 0xD8, 0x7F, 0xFF], 0xFFFE, 0x0102, 0, 12, [(0x7FFF, 0x99)]⟩ := by decide

/-- RETI sets IME, DI clears it, and so does interrupt entry. -/
theorem witness_ImeWriters : (after (start base [0xD9] [])).map Seen.bits = some 1 ∧
    (after (start { base with ime := true } [0xF3] [])).map Seen.bits = some 0 ∧
    (after { requested with ime := true }).map Seen.bits = some 0 := by decide

theorem witness_TierT1WritesNoPc : (∃ t, exec .pushAF base = .next t) ∧ isTierT2 ((encode .pushAF).headD 0) = false :=
  ⟨⟨_, rfl⟩, by decide⟩

/-- The clauses of WritePoliciesHold at the first and the last address of each region. -/
theorem witness_WritePoliciesHold : Memory.wf banked.mem = true ∧
    [0x0000, 0x7FFF].map (regionAt banked.params.regions) = [some ⟨0x0000, 0x8000, .readOnly⟩, some ⟨0x0000, 0x8000, .readOnly⟩] ∧
    [0x8000, 0x9FFF].map (regionAt banked.params.regions) = [some ⟨0x8000, 0x2000, .normal⟩, some ⟨0x8000, 0x2000, .normal⟩] ∧
    [0xA000, 0xBFFF].map (regionAt banked.params.regions) = [some ⟨0xA000, 0x2000, .external⟩, some ⟨0xA000, 0x2000, .external⟩] ∧
    [0xE000, 0xFDFF].map (regionAt banked.params.regions) =
      [some ⟨0xE000, 0x1E00, .mirror 0xC000⟩, some ⟨0xE000, 0x1E00, .mirror 0xC000⟩] ∧
    [0xC000, 0xDFFF, 0xFE02, 0xFFFF].map (regionAt banked.params.regions) = [none, none, none, none] ∧
    [0x0000, 0x7FFF, 0xFE00].map (writable banked.params.regions) = [false, false, false] ∧
    [0x8000, 0x9FFF, 0xA000, 0xBFFF, 0xE000, 0xFDFF, 0xFE01, 0xFE02].map (writable banked.params.regions) =
      [true, true, true, true, true, true, true, true] ∧
    [0x9FFF, 0xA000, 0xBFFF, 0xC000, 0xFE00, 0xFE01].map (external banked.params.regions) =
      [false, true, true, false, false, true] := by decide
theorem witness_WritePoliciesHold_cells :
    [0x8000, 0x9FFF, 0xE000, 0xFDFF, 0xFE00, 0xFE01, 0xFE02].map (cellOf banked.params.regions) =
      [0x8000, 0x9FFF, 0xC000, 0xDDFF, 0x7FFF, 0xBFFF, 0xFE02] ∧
    ((banked.store 0x8000 0x55).peek 0x8000, (banked.store 0x9FFF 0x55).peek 0x9FFF,
      (banked.store 0xE000 0x55).peek 0xC000, (banked.store 0xFDFF 0x55).peek 0xFDFF) = (0x55, 0x55, 0x55, 0x55) := by
  decide

/-- A mirror's target range that runs past 0xFFFF goes on at 0x0000 (assumption 5). -/
theorem witness_WritePoliciesHold_target_wraps :
    [0xE000, 0xE001].map (cellOf [⟨0xE000, 2, .mirror 0xFFFF⟩]) = [0xFFFF, 0x0000] := by decide

theorem witness_PushPopRoundTrip :
    Memory.wf banked.mem = true ∧ writable banked.params.regions (banked.sp - 1) = true ∧ writable banked.params.regions (banked.sp - 2) = true ∧
    external banked.params.regions (banked.sp - 1) = false ∧ external banked.params.regions (banked.sp - 2) = false ∧
    cellOf banked.params.regions (banked.sp - 1) ≠ cellOf banked.params.regions (banked.sp - 2) := by decide

/-- Storing forms in canonical memory: at a mirrored address the target's byte changes, at a read-only one none. -/
theorem witness_LdIndHLStores : Memory.wf banked.mem = true ∧
    (match exec .ldIndHLA { banked with regs := { banked.regs with h := 0xE0, l := 0x00 } } with
      | .next t => (t.peek 0xC000, t.peek 0xE000, t.peek 0xC001)
      | _ => (0, 0, 0)) = (0x01, 0x01, 0x00) := by decide
theorem witness_StoresOfA : Memory.wf banked.mem = true ∧
    (match exec .ldIndHLDA { banked with regs := { banked.regs with h := 0x00, l := 0x00 } } with
      | .next t => (t.peek 0x0000, t.hl)
      | _ => (0, 0)) = (0x00, 0xFFFF) := by decide
/-- At the seam of the mirror the two bytes fall in one cell each; over a mirror of the same cell the last byte wins. -/
theorem witness_LdIndNNSPStoresBothBytes : Memory.wf banked.mem = true ∧
    (match exec (.ldIndNNSP 0xDFFF) banked with
      | .next t => (t.peek 0xDFFF, t.peek 0xE000, t.peek 0xC000)
      | _ => (0, 0, 0)) = (0xFE, 0xFF, 0xFF) ∧
    cellOf [⟨0xE000, 1, .mirror 0xDFFF⟩] 0xDFFF = cellOf [⟨0xE000, 1, .mirror 0xDFFF⟩] (0xDFFF + 1) := by decide
theorem witness_IncDecKeepCarry : Memory.wf banked.mem = true ∧
    (match exec .incIndHL { banked with regs := { banked.regs with h := 0xE0, l := 0x00 } } with
      | .next t => (t.peek 0xC000, t.flags.h, t.flags.c)
      | _ => (0, true, true)) = (0x01, false, true) := by decide
theorem witness_PushWritesHighThenLow : Memory.wf banked.mem = true ∧
    (match exec .pushBC { banked with sp := 0x0001 } with
      | .next t => (t.peek 0x0000, t.peek 0xFFFF, t.sp)
      | _ => (0, 0, 0)) = (0x00, 0x13, 0xFFFF) := by decide
theorem witness_CallsPushReturnAddress : Memory.wf banked.mem = true ∧ banked.flags.holds .Z = true ∧ banked.flags.holds .NZ = false ∧
    banked.flags.holds .C = true ∧ banked.flags.holds .NC = false := by decide
theorem witness_CbShiftIndHLResults : Memory.wf banked.mem = true ∧
    (match exec .rlcIndHL { banked with regs := { banked.regs with h := 0x00, l := 0x00 } } with
      | .next t => (t.peek 0x0000, t.flags.z, t.cycles)
      | _ => (0, false, 0)) = (0x00, true, 16) := by decide
theorem witness_CbBitsResults : Memory.wf banked.mem = true ∧
    (match exec .set7IndHL { banked with regs := { banked.regs with h := 0xFD, l := 0xFF } } with
      | .next t => (t.peek 0xDDFF, decide (t.flags = banked.flags))
      | _ => (0, false)) = (0x80, true) := by decide

/-- Both cases of DAA. -/
theorem witness_DaaCplScfCcfResults : base.flags.n = false ∧ { base.flags with n := true }.n = true := by decide

/-- Each clause of HALT: the halted core, the HALT bug, the refusal. -/
theorem witness_HaltHaltsOrSetsBug : base.params.irq = .none ∧ requested.params.irq = .canonical ∧
    ({ requested with eiDelay := true } : State).eiDelay = true ∧ requested.ime = false ∧ requested.eiDelay = false ∧
    pendingRequests requested ≠ 0 ∧ requested.params.haltBug = .refuse ∧
    ({ requested.params with haltBug := .canonical } : Params).haltBug = .canonical := by decide

theorem witness_StopStopsTheCore : ({ base.params with stop := .stopped } : Params).stop = .stopped ∧ base.params.stop = .refuse ∧
    ({ base with stopped := true } : State).stopped = true ∧ base.params.profile = .full := by decide

theorem witness_UndefinedOpcodeFaults : RunsNext (start base [0xDD] []) ∧ RunsNext (start coreBase [0xFD] []) ∧ (start base [0xDD] []).peek 0x0100 = 0xDD ∧ (start coreBase [0xFD] []).peek 0x0100 = 0xFD ∧
    base.haltBug = false ∧ coreBase.haltBug = false :=
  ⟨⟨rfl, rfl, by decide⟩, ⟨rfl, rfl, by decide⟩, by decide, by decide, rfl, rfl⟩

/-- A CYCLES table that tells apart forms the default table gives one count. -/
def retimed : State := { base with params := { base.params with cycles := [(.stop, 8), (.dec .indHL, 16)] } }

theorem witness_IdleStepsChangeNothing_cycles :
    (∀ e ∈ retimed.params.cycles, e.1 ≠ .halt) ∧
    retimed.params.cycles = [(.stop, 8)] ++ (.dec .indHL, 16) :: [] ∧
    (∀ e ∈ [((.stop : CycleForm), 8)], e.1 ≠ .dec .indHL) := by decide

/-- DEC (HL) reports its own count, INC (HL) the default one (R480). -/
theorem test_cycles_by_form :
    ([exec .decIndHL retimed, exec .incIndHL retimed].map fun
      | .next t => t.cycles
      | _ => 0) = [16, 12] := by decide

theorem witness_LdRegRegCopies : execLdAA base = .next { base with cycles := 4 } := by rfl

theorem witness_PopReadsLowThenHigh : (match exec .popAF (start { base with sp := 0xCFFE } [] [(0xCFFE, 0x5F), (0xCFFF, 0x34)]) with
      | .next t => (t.reg .A, t.flags.toByte, t.sp)
      | _ => (0, 0, 0)) = (0x34, 0x50, 0xD000) := by decide

end Sys2Proof.Tests
end

section
/-! The family `00_scope.md`: which instruction can fail to complete, and by which stop. -/

namespace Sys2Proof.Proofs

open Sys2Proof.Machine Sys2Proof.Laws

/-- HALT is refused in the HALT-bug situation under HALT_BUG = refuse only (R369). -/
theorem exec_halt_refused {s : State} {r : Refusal} (h : exec .halt s = .refused r) :
    s.params.irq = .canonical ∧ s.params.haltBug = .refuse ∧ s.ime = false ∧ s.eiDelay = false ∧
      pendingRequests s ≠ 0 ∧ r = .haltBugNotModelled 0x76 := by
  change execHalt s = _ at h
  unfold execHalt at h
  cases irq : s.params.irq with
  | none => rw [irq] at h; cases h
  | canonical =>
    simp only [irq, State.samplePending_eq s irq] at h
    split at h
    next bug =>
      obtain ⟨ime, eiDelay, pending⟩ := bug
      split at h
      next policy => cases h; exact ⟨rfl, policy, ime, eiDelay, pending, rfl⟩
      next => cases h
    next => cases h

/-- STOP is refused under STOP_MODE = refuse only (R370). -/
theorem exec_stop_refused {pad : Byte} {s : State} {r : Refusal} (h : exec (.stop pad) s = .refused r) :
    s.params.stop = .refuse ∧ r = .stopNotModelled 0x10 := by
  change execStop pad s = _ at h
  unfold execStop at h
  split at h
  next policy => cases h; exact ⟨policy, rfl⟩
  next => cases h

/-- PREFIX CB is refused under CB_EXT = refuse only (R373): under CB_EXT = table it is an operation of the sub-table, and
those complete. -/
theorem exec_prefixCb_refused {s : State} {r : Refusal} (h : exec .prefixCb s = .refused r) :
    s.params.cbExt = .refuse ∧ r = .cbExtensionExternal 0xCB := by
  cases policy : s.params.cbExt with
  | refuse => rw [exec_prefixCb_refuse s policy] at h; cases h; exact ⟨rfl, rfl⟩
  | table =>
    obtain ⟨t, completes, _⟩ := exec_quiet _ (afterOperand s) (loud_decodeCb (operandByte s))
    rw [exec_prefixCb_table s policy, completes] at h
    cases h

/-- Only HALT, STOP and PREFIX CB can be refused: every quiet instruction completes, and of the others UNDEFINED faults
and RETI, DI and EI complete. -/
theorem exec_refused_cases {i : Instr} {s : State} {r : Refusal} (h : exec i s = .refused r) :
    i = .halt ∨ (∃ pad, i = .stop pad) ∨ i = .prefixCb := by
  cases hl : loud i with
  | false =>
    obtain ⟨t, completes, _⟩ := exec_quiet i s hl
    rw [completes] at h
    cases h
  | true =>
    cases i <;> cases hl
    case true.halt.refl => exact .inl rfl
    case true.stop.refl pad => exact .inr (.inl ⟨pad, rfl⟩)
    case true.prefixCb.refl => exact .inr (.inr rfl)
    all_goals cases h

/-- Settles O19: a fault is UNDEFINED's, and a refusal is that of HALT, STOP or PREFIX CB, under the setting that refuses
it. -/
theorem whatDoesNotComplete : Obligations.WhatDoesNotComplete := by
  unfold Obligations.WhatDoesNotComplete
  intro i s
  cases outcome : exec i s with
  | next t => exact .inl ⟨t, rfl⟩
  | fault f =>
    obtain ⟨op, rfl, rfl⟩ := exec_fault outcome
    exact .inr (.inl ⟨op, rfl, rfl⟩)
  | refused r =>
    obtain rfl | ⟨pad, rfl⟩ | rfl := exec_refused_cases outcome
    · obtain ⟨irq, policy, ime, eiDelay, pending, rfl⟩ := exec_halt_refused outcome
      exact .inr (.inr (.inl ⟨rfl, irq, policy, ime, eiDelay, pending, rfl⟩))
    · obtain ⟨policy, rfl⟩ := exec_stop_refused outcome
      exact .inr (.inr (.inr (.inl ⟨pad, rfl, policy, rfl⟩)))
    · obtain ⟨policy, rfl⟩ := exec_prefixCb_refused outcome
      exact .inr (.inr (.inr (.inr ⟨rfl, policy, rfl⟩)))

end Sys2Proof.Proofs
end

section
/-! The family `10_state.md`: the invariant, what tier T1 leaves alone, the setters and the views of the registers. -/

namespace Sys2Proof.Proofs

open Sys2Proof.Machine Sys2Proof.Laws

/-! ## Tier T1 -/

/-- The control transfers, whose meaning writes pc. -/
def transfersControl : Instr → Bool
  | .jpNn _ | .jpNZnn _ | .jpZnn _ | .jpNCnn _ | .jpCnn _ | .jpHL => true
  | .jrE _ | .jrNZe _ | .jrZe _ | .jrNCe _ | .jrCe _ => true
  | .callNn _ | .callNZnn _ | .callZnn _ | .callNCnn _ | .callCnn _ => true
  | .ret | .retNZ | .retZ | .retNC | .retC | .reti => true
  | .rst00 | .rst08 | .rst10 | .rst18 | .rst20 | .rst28 | .rst30 | .rst38 => true
  | _ => false

/-- The tier of an instruction is that of the byte its encoding begins with. -/
theorem isTierT2_of_encode {i : Instr} {op : Byte} {rest : List Byte} (h : encode i = op :: rest)
    (tier : isTierT2 op = true) : isTierT2 ((encode i).headD 0) = true := by
  rw [h]; exact tier

/-- A control transfer is of tier T2. -/
theorem isTierT2_of_transfersControl {i : Instr} (h : transfersControl i = true) :
    isTierT2 ((encode i).headD 0) = true := by
  cases i <;> cases h <;> exact isTierT2_of_encode rfl rfl

/-- HALT, STOP, DI, EI, RETI and PREFIX CB are of tier T2; UNDEFINED does not complete. -/
theorem isTierT2_of_loud {i : Instr} {s t : State} (hl : loud i = true) (h : exec i s = .next t) :
    isTierT2 ((encode i).headD 0) = true := by
  cases i <;> cases hl
  case undefined.refl => cases h
  all_goals exact isTierT2_of_encode rfl rfl

/-- An instruction that is quiet and transfers no control leaves pc where its fetch left it. -/
theorem exec_keeps_pc (i : Instr) (s : State) :
    loud i = false → transfersControl i = false → ∃ t, exec i s = .next t ∧ t.pc = s.pc := by
  refine byShape (P := fun i => loud i = false → transfersControl i = false → ∃ t, exec i s = .next t ∧ t.pc = s.pc)
    (h_ldRegReg := fun d r _ _ => ⟨_, exec_ldRegReg d r s, by simp⟩)
    (h_ldRegImm := fun d n _ _ => ⟨_, exec_ldRegImm d n s, by simp⟩)
    (h_ldRegIndHL := fun d _ _ => ⟨_, exec_ldRegIndHL d s, by simp⟩)
    (h_ldIndHLReg := fun r _ _ => ⟨_, exec_ldIndHLReg r s, by simp⟩)
    (h_ldPairImm := fun p nn _ _ => ⟨_, exec_ldPairImm p nn s, by simp⟩)
    (h_loadA := fun m _ _ => ⟨_, exec_loadA m s, by simp⟩)
    (h_storeA := fun m _ _ => ⟨_, exec_storeA m s, by simp⟩)
    (h_inc := fun x _ _ => ⟨_, (exec_inc x s).trans (inc_eq s x), by simp⟩)
    (h_dec := fun x _ _ => ⟨_, (exec_dec x s).trans (dec_eq s x), by simp⟩)
    (h_incPair := fun p _ _ => ⟨_, exec_incPair p s, by simp⟩)
    (h_decPair := fun p _ _ => ⟨_, exec_decPair p s, by simp⟩)
    (h_addHL := fun p _ _ => ⟨_, exec_addHL p s, by simp⟩)
    (h_alu := fun op x _ _ => ⟨_, (exec_alu op x s).trans (alu_eq s op x), by simp⟩)
    (h_aluImm := fun op n _ _ => ⟨_, (exec_aluImm op n s).trans (aluImm_eq s op n), by simp⟩)
    (h_push := fun q _ _ => ⟨_, exec_push q s, by simp⟩)
    (h_pop := fun q _ _ => ⟨_, (exec_pop q s).trans (pop_eq s q), by simp⟩)
    (h_jpCond := fun cc _ _ ht => by cases cc <;> cases ht)
    (h_jrCond := fun cc _ _ ht => by cases cc <;> cases ht)
    (h_callCond := fun cc _ _ ht => by cases cc <;> cases ht)
    (h_retCond := fun cc _ ht => by cases cc <;> cases ht)
    (h_rst := fun r _ ht => by cases r <;> cases ht)
    (h_accRot := fun op _ _ => ⟨_, (exec_accRot op s).trans (accRot_eq s op), by simp⟩)
    (h_shift := fun op x _ _ => ⟨_, (exec_shift op x s).trans (shift_eq s op x), by simp⟩)
    (h_bit := fun b x _ _ => ⟨_, (exec_bit b x s).trans (bitTest_eq s b x), by simp⟩)
    (h_res := fun b x _ _ => ⟨_, (exec_res b x s).trans (bitRes_eq s b x), by simp⟩)
    (h_set := fun b x _ _ => ⟨_, (exec_set b x s).trans (bitSet_eq s b x), by simp⟩)
    (h_ldIndNNSP := fun _ _ _ => ⟨_, rfl, by simp⟩)
    (h_stop := nofun)
    (h_jrE := nofun)
    (h_ldIndHLn := fun _ _ _ => ⟨_, rfl, by simp⟩)
    (h_jpNn := nofun)
    (h_callNn := nofun)
    (h_undefined := nofun)
    (h_addSPe := fun e _ _ => ⟨_, execAddSPe_eq s e, by simp⟩)
    (h_ldHLSPe := fun e _ _ => ⟨_, execLdHLSPe_eq s e, by simp⟩)
    (h_nop := fun _ _ => ⟨_, rfl, by simp⟩)
    (h_daa := fun _ _ => ⟨_, execDaa_eq s, by simp⟩)
    (h_cpl := fun _ _ => ⟨_, rfl, by simp⟩)
    (h_scf := fun _ _ => ⟨_, rfl, by simp⟩)
    (h_ccf := fun _ _ => ⟨_, rfl, by simp⟩)
    (h_halt := nofun)
    (h_ret := nofun)
    (h_prefixCb := nofun)
    (h_reti := nofun)
    (h_jpHL := nofun)
    (h_di := nofun)
    (h_ldSPHL := fun _ _ => ⟨_, rfl, by simp⟩)
    (h_ei := nofun)
    i

/-- What an instruction of tier T1 that completes does: it is quiet and leaves pc. -/
theorem exec_tierT1 {i : Instr} {s t : State} (h : exec i s = .next t)
    (tier : isTierT2 ((encode i).headD 0) = false) : Quiet s t ∧ t.pc = s.pc := by
  have hl : loud i = false :=
    Bool.eq_false_iff.mpr fun isLoud => Bool.false_ne_true (tier.symm.trans (isTierT2_of_loud isLoud h))
  have ht : transfersControl i = false :=
    Bool.eq_false_iff.mpr fun transfers =>
      Bool.false_ne_true (tier.symm.trans (isTierT2_of_transfersControl transfers))
  obtain ⟨u, hu, quiet⟩ := exec_quiet i s hl
  obtain ⟨v, hv, pc⟩ := exec_keeps_pc i s hl ht
  cases h.symm.trans hu
  cases h.symm.trans hv
  exact ⟨quiet, pc⟩

/-- Settles O18: an instruction of tier T1 is none of the control transfers and none of those that touch R40. -/
theorem tierT1WritesNoPc : Obligations.TierT1WritesNoPc := by
  unfold Obligations.TierT1WritesNoPc
  intro i s t h tier
  obtain ⟨quiet, pc⟩ := exec_tierT1 h tier
  exact ⟨pc, quiet.ime, quiet.eiDelay, quiet.halted, quiet.stopped, quiet.haltBug⟩

/-! ## The invariant -/

/-- A state with memory in canonical form, in which an instruction of a step can run: the core neither stopped nor halted,
halt_bug consumed by the opcode fetch, and under PROFILE = CORE no interrupt bit set. -/
structure Running (s : State) : Prop where
  wf : Memory.wf s.mem = true
  halted : s.halted = false
  stopped : s.stopped = false
  haltBug : s.haltBug = false
  core : s.params.profile = .core → s.ime = false ∧ s.eiDelay = false

theorem Running.inv {s : State} (h : Running s) : s.Inv :=
  ⟨h.wf, fun hp => ⟨(h.core hp).1, (h.core hp).2, h.halted, h.stopped, h.haltBug⟩,
    by simp [h.stopped], by simp [h.halted], by simp [h.haltBug]⟩

/-- The invariant speaks of memory, the bits of R40 and the parameters only, so what is quiet keeps it. -/
theorem inv_of_quiet {s t : State} (q : Quiet s t) (h : s.Inv) : t.Inv := by
  obtain ⟨wf, core, stopped, halted, haltBug⟩ := h
  simp only [State.Inv, q.ime, q.eiDelay, q.halted, q.stopped, q.haltBug, q.params]
  exact ⟨q.wf wf, core, stopped, halted, haltBug⟩

/-- Under PROFILE = FULL the invariant leaves IME and ei_delay free. -/
theorem inv_of_interruptBits {s : State} (h : s.Inv) (full : s.params.profile = .full) (ime eiDelay : Bool) :
    ({ s with ime := ime, eiDelay := eiDelay } : State).Inv := by
  obtain ⟨wf, _, stopped, halted, haltBug⟩ := h
  exact ⟨wf, fun core => by simp [full] at core, stopped, halted, haltBug⟩

/-- Waking from HALT keeps the invariant. -/
theorem inv_of_wake {s : State} (h : s.Inv) : ({ s with halted := false } : State).Inv := by
  obtain ⟨wf, core, stopped, halted, haltBug⟩ := h
  refine ⟨wf, fun hp => ?_, fun hs => ?_, nofun, haltBug⟩
  · obtain ⟨ime, eiDelay, _, rest⟩ := core hp
    exact ⟨ime, eiDelay, rfl, rest⟩
  · obtain ⟨mode, _, noBug⟩ := stopped hs
    exact ⟨mode, rfl, noBug⟩

/-- Power-on from any INIT, with an image in canonical form, meets the invariant. -/
theorem powerOn_inv (init : Init) (params : Params) (image : List Host.Cell) (device : Nat)
    (wf : Memory.wf image = true) : (State.powerOn init params image device).Inv :=
  Running.inv ⟨wf, rfl, rfl, rfl, fun _ => ⟨rfl, rfl⟩⟩

/-- Settles O13: the reset state is one such power-on, with nothing in memory. -/
theorem invHoldsAtReset : Obligations.InvHoldsAtReset := by
  unfold Obligations.InvHoldsAtReset
  exact powerOn_inv _ _ _ _ rfl

/-- After the fetches of a step from a state of the invariant, an instruction can run: the fetch has consumed halt_bug under
PROFILE = FULL, and under PROFILE = CORE no bit of R40 was set. -/
theorem fetched_running {s : State} (h : s.Inv) (awake : s.params.profile = .full → s.stopped = false) (op : Byte) :
    Running (fetchInstr op (readyToRun s).fetchOpcode.2).2 := by
  obtain ⟨pc, device, bus, fetched⟩ := fetched_state op (readyToRun s)
  obtain ⟨wf, core, -, -, -⟩ := h
  rw [fetched]
  cases hp : s.params.profile with
  | core =>
    obtain ⟨ime, eiDelay, halted, stopped, haltBug⟩ := core hp
    exact ⟨wf, by simp [readyToRun, halted], stopped, by simp [readyToRun, State.checked, haltBug],
      fun _ => ⟨ime, eiDelay⟩⟩
  | full =>
    exact ⟨wf, by simp [readyToRun, hp], awake hp, by simp [readyToRun, State.checked, State.heldBack, hp],
      fun core => by simp [readyToRun, State.checked, hp] at core⟩

/-- The fetches of a step change no parameter. -/
theorem fetched_params (s : State) (op : Byte) :
    (fetchInstr op (readyToRun s).fetchOpcode.2).2.params = s.params := by
  obtain ⟨pc, device, bus, fetched⟩ := fetched_state op (readyToRun s)
  rw [fetched]; rfl

/-- What an instruction the profile gate lets pass leaves meets the invariant. -/
theorem exec_inv {i : Instr} {s t : State} (running : Running s) (h : exec i s = .next t)
    (gate : s.params.profile = .core → isTierT2 ((encode i).headD 0) = false) : t.Inv := by
  cases hp : s.params.profile with
  | core => exact inv_of_quiet (exec_tierT1 h (gate hp)).1 running.inv
  | full =>
    have inv := running.inv
    have notCore : s.params.profile ≠ .core := by simp [hp]
    obtain ⟨wf, halted, stopped, haltBug, -⟩ := running
    obtain quiet | ⟨-, bus, n, rfl⟩ | ⟨-, irq, mode, bus, n, rfl⟩ | ⟨-, mode, n, rfl⟩ | ⟨-, n, rfl⟩ | ⟨-, n, rfl⟩ |
      ⟨-, pc, sp, device, bus, n, rfl⟩ := exec_cases h
    · exact inv_of_quiet quiet inv
    · exact ⟨wf, fun hc => absurd hc notCore, by simp [stopped], fun _ => haltBug, by simp [haltBug]⟩
    · exact ⟨wf, fun hc => absurd hc notCore, by simp [stopped], by simp [halted], fun _ => ⟨irq, mode⟩⟩
    · exact ⟨wf, fun hc => absurd hc notCore, fun _ => ⟨mode, halted, haltBug⟩, by simp [halted], by simp [haltBug]⟩
    all_goals exact Running.inv ⟨wf, halted, stopped, haltBug, fun hc => absurd hc notCore⟩

/-- The profile gate lets only tier T1 pass under PROFILE = CORE (R103). -/
theorem profileGate_passes {s : State} {op : Byte} (h : profileGate s op = none) (core : s.params.profile = .core) :
    isTierT2 op = false := by
  simpa [profileGate, core] using h

/-- A step that answers a next state keeps the invariant: it idles, enters an interrupt, or runs an instruction. -/
theorem step_inv {s t : State} (inv : s.Inv) (h : step s = .next t) : t.Inv := by
  obtain ⟨-, -, rfl⟩ | ⟨-, -, -, rfl⟩ | ⟨full, -, -, -, -, rfl⟩ | ⟨awake, ran⟩ := step_cases h
  case inl => exact inv
  case inr.inl => exact inv
  case inr.inr.inl =>
    have woken : ({ s.checked with halted := false } : State).Inv := inv_of_wake (s := s.checked) inv
    exact inv_of_quiet (interruptEntry_quiet _ _ _) (inv_of_interruptBits woken full false false)
  case inr.inr.inr =>
    obtain ⟨gate, u, executed, rfl⟩ := runInstruction_cases ran
    have uInv : u.Inv := by
      refine exec_inv (fetched_running inv awake _) executed fun core => ?_
      rw [encode_headD (fetchInstr_head _ _)]
      exact profileGate_passes gate ((congrArg Params.profile (fetched_params s _)).symm.trans core)
    split
    next full => exact inv_of_interruptBits uInv full.1 true false
    next => exact uInv

/-- Settles O14: idle steps, interrupt entry and instructions each keep the invariant. -/
theorem invKeptByStep : Obligations.InvKeptByStep := by
  unfold Obligations.InvKeptByStep
  intro s t inv h
  exact step_inv inv h

/-- No step changes the parameters (R6). -/
theorem step_params {s t : State} (h : step s = .next t) : t.params = s.params := by
  obtain ⟨-, -, rfl⟩ | ⟨-, -, -, rfl⟩ | ⟨-, -, -, -, -, rfl⟩ | ⟨-, ran⟩ := step_cases h
  case inl => rfl
  case inr.inl => rfl
  case inr.inr.inl => exact (interruptEntry_quiet _ _ _).params
  case inr.inr.inr =>
    obtain ⟨-, u, executed, rfl⟩ := runInstruction_cases ran
    have uParams : u.params = s.params := (exec_params executed).trans (fetched_params s _)
    split
    next => exact uParams
    next => exact uParams

/-- Settles O15, by induction on the number of steps. -/
theorem safeRunKeepsInvAndParams : Obligations.SafeRunKeepsInvAndParams := by
  unfold Obligations.SafeRunKeepsInvAndParams
  intro k
  induction k with
  | zero =>
    intro s t inv run
    obtain rfl := (safeRun_zero s t).mp run
    exact ⟨inv, rfl⟩
  | succ k ih =>
    intro s t inv run
    obtain ⟨u, first, rest⟩ := (safeRun_succ k s t).mp run
    obtain ⟨tInv, tParams⟩ := ih u t (step_inv inv first) rest
    exact ⟨tInv, tParams.trans (step_params first)⟩

/-! ## The setters and the views of the registers -/

/-- An integer narrowed to a byte is its non-negative residue mod 256 (R8). -/
theorem wrap8_toNat_int (v : Int) : ((wrap8 v).toNat : Int) = v % 256 := by
  rw [wrap8_toNat, Int.toNat_of_nonneg (Int.emod_nonneg v (by decide))]

/-- An integer narrowed to a word is its non-negative residue mod 65536 (R8). -/
theorem wrap16_toNat_int (v : Int) : ((wrap16 v).toNat : Int) = v % 65536 := by
  rw [wrap16_toNat, Int.toNat_of_nonneg (Int.emod_nonneg v (by decide))]

/-- A write to a register changes the register file only. -/
theorem setReg_frame (s : State) (r : Reg) (v : Byte) :
    s.setReg r v = { s with regs := (s.setReg r v).regs } := by
  cases r <;> rfl

/-- Settles O22: each setter narrows its value and then writes that register, SP, pc or pair alone. -/
theorem settersWrap : Obligations.SettersWrap := by
  unfold Obligations.SettersWrap
  refine ⟨fun s r v => ⟨?_, fun q hq => ?_, ?_⟩, fun s v => ⟨?_, rfl⟩, fun s v => ⟨?_, rfl⟩,
    fun s v => ⟨?_, fun q hH hL => ?_, rfl⟩⟩
  · rw [State.setRegInt, State.reg_setReg_same, wrap8_toNat_int]
  · exact State.reg_setReg_other s r q _ hq
  · exact setReg_frame s r _
  · exact wrap16_toNat_int v
  · exact wrap16_toNat_int v
  · rw [State.setPairInt, State.hl_setPair, wrap16_toNat_int]
  · exact State.reg_setPair_other s .HL _ q (by simp [pairRegs, hH, hL])

/-- Settles O23: a pair is the word of its halves, and a word written splits into its two bytes. -/
theorem pairViewsConsistent : Obligations.PairViewsConsistent := by
  unfold Obligations.PairViewsConsistent
  intro s
  refine ⟨⟨word_toNat _ _, word_toNat _ _, word_toNat _ _, rfl, rfl⟩, fun p v => ⟨?_, fun r hr => ?_⟩,
    fun v => ⟨hiByte_toNat v, loByte_toNat v⟩, fun v => ⟨word_toNat _ _, word_toNat _ _⟩⟩
  · exact State.pair_setPair_same s p v
  · exact State.reg_setPair_other s p v r hr

/-- The low nibble of the flag byte is zero: its four weights are multiples of 16 (R23). -/
theorem toByte_lowNibble (f : Flags) : f.toByte &&& 0x0F = 0 := by
  apply BitVec.eq_of_toNat_eq
  rw [and_15, Flags.toByte_toNat]
  change _ = 0
  omega

/-- A byte written to the view F reads back without its low nibble (R23), for each of the 256 bytes. -/
theorem toByte_ofByte (v : Byte) : (Flags.ofByte v).toByte = v &&& 0xF0 := by
  revert v; decide

/-- AF written and read back loses the low nibble of F (R28). -/
theorem stackPair_setStackPair_AF (s : State) (v : Word) :
    (s.setStackPair .AF v).stackPair .AF = v &&& 0xFFF0 :=
  calc (s.setStackPair .AF v).stackPair .AF
    _ = word (hiByte v) (Flags.ofByte (loByte v)).toByte := rfl
    _ = word (hiByte v) (loByte v &&& 0xF0) := by rw [toByte_ofByte]
    _ = v &&& 0xFFF0 := by rw [word_and, word_halves]

/-- Settles O24: the byte view packs and unpacks the flags, and AF is A and that byte. -/
theorem flagByteViewRoundTrips : Obligations.FlagByteViewRoundTrips := by
  unfold Obligations.FlagByteViewRoundTrips
  refine ⟨fun f => ⟨?_, ?_, ?_⟩, ?_, fun s v => ⟨?_, rfl, ?_⟩⟩
  · exact Flags.toByte_toNat f
  · exact toByte_lowNibble f
  · exact Flags.ofByte_toByte f
  · exact toByte_ofByte
  · exact stackPair_setStackPair_AF s v
  · exact word_toNat _ _

end Sys2Proof.Proofs
end

section
/-! The family `20_memory.md`: the policies of the table of regions, and read-only memory under every step. -/

namespace Sys2Proof.Proofs

open Sys2Proof.Machine Sys2Proof.Laws

/-! ## The policy of an address -/

/-- An address whose first region mirrors nothing shows its own cell. -/
theorem cellOf_own {rs : List Region} {a : Word}
    (h : ∀ base size target, regionAt rs a.toNat ≠ some ⟨base, size, .mirror target⟩) : cellOf rs a = a := by
  unfold cellOf
  split
  next base size target mirrored => exact absurd mirrored (h base size target)
  next => rfl

/-- An address of a mirror shows the cell as far into the target range as the address is into the mirror, wrapping at
the end of memory (assumption 5). -/
theorem cellOf_mirror {rs : List Region} {a : Word} {base size : Nat} {target : Word}
    (h : regionAt rs a.toNat = some ⟨base, size, .mirror target⟩) :
    cellOf rs a = target + BitVec.ofNat 16 (a.toNat - base) := by
  have inside : base ≤ a.toNat := (regionAt_some rs _ _ h).1
  have shown : cellOf rs a = wrap16 (target.toNat + (a.toNat - base)) := by rw [cellOf, h]
  rw [shown, wrap16, ← Int.ofNat_sub inside, BitVec.ofInt_add, BitVec.ofInt_natCast, BitVec.ofInt_natCast,
    BitVec.ofNat_toNat, BitVec.setWidth_eq]

/-- A write is kept unless the cell shown is in a read-only region. -/
theorem writable_iff (rs : List Region) (a : Word) :
    writable rs a = true ↔ ∀ base size, regionAt rs (cellOf rs a).toNat ≠ some ⟨base, size, .readOnly⟩ := by
  unfold writable
  split
  next base size readOnly => exact ⟨nofun, fun h => absurd readOnly (h base size)⟩
  next h => exact ⟨fun _ => h, fun _ => rfl⟩

/-- An address is the collaborator's just when the cell shown is in an external region. -/
theorem external_iff (rs : List Region) (a : Word) :
    external rs a = true ↔ ∃ base size, regionAt rs (cellOf rs a).toNat = some ⟨base, size, .external⟩ := by
  unfold external
  split
  next base size owned => exact ⟨fun _ => ⟨base, size, owned⟩, fun _ => rfl⟩
  next h => exact ⟨nofun, fun ⟨base, size, owned⟩ => absurd owned (h base size)⟩

/-- The policy of an address of a region that mirrors nothing, or of none, is that of its own region. -/
theorem policy_own {rs : List Region} {a : Word}
    (h : ∀ base size target, regionAt rs a.toNat ≠ some ⟨base, size, .mirror target⟩) :
    cellOf rs a = a ∧
    (writable rs a = true ↔ ∀ base size, regionAt rs a.toNat ≠ some ⟨base, size, .readOnly⟩) ∧
    (external rs a = true ↔ ∃ base size, regionAt rs a.toNat = some ⟨base, size, .external⟩) := by
  have own := cellOf_own h
  have kept := writable_iff rs a
  have owned := external_iff rs a
  rw [own] at kept owned
  exact ⟨own, kept, owned⟩

/-- An address of a normal region, or of none (assumption 4), shows its own cell and keeps writes. -/
theorem policy_normal {rs : List Region} {a : Word}
    (h : ∀ r, regionAt rs a.toNat = some r → r.policy = .normal) :
    cellOf rs a = a ∧ writable rs a = true ∧ external rs a = false := by
  obtain ⟨own, kept, owned⟩ := policy_own (rs := rs) (a := a) fun _ _ _ e => nomatch h _ e
  refine ⟨own, kept.mpr fun _ _ e => (nomatch h _ e), Bool.eq_false_iff.mpr fun e => ?_⟩
  obtain ⟨base, size, declared⟩ := owned.mp e
  exact nomatch h _ declared

theorem policy_readOnly {rs : List Region} {a : Word} {base size : Nat}
    (h : regionAt rs a.toNat = some ⟨base, size, .readOnly⟩) :
    cellOf rs a = a ∧ writable rs a = false ∧ external rs a = false := by
  obtain ⟨own, kept, -⟩ := policy_own (rs := rs) (a := a) (by simp [h])
  have dropped : writable rs a = false := Bool.eq_false_iff.mpr fun e => kept.mp e base size h
  exact ⟨own, dropped, external_of_readOnly rs a dropped⟩

theorem policy_external {rs : List Region} {a : Word} {base size : Nat}
    (h : regionAt rs a.toNat = some ⟨base, size, .external⟩) :
    cellOf rs a = a ∧ writable rs a = true ∧ external rs a = true := by
  obtain ⟨own, kept, owned⟩ := policy_own (rs := rs) (a := a) (by simp [h])
  exact ⟨own, kept.mpr (by simp [h]), owned.mpr ⟨base, size, h⟩⟩

/-! ## What a write leaves at each address -/

/-- A kept write is read back at every address that shows its cell. -/
theorem peek_store_kept {s : State} {a b : Word} (v : Byte) (wf : Memory.wf s.mem = true)
    (kept : writable s.params.regions a = true) (own : external s.params.regions a = false)
    (same : cellOf s.params.regions b = cellOf s.params.regions a) : (s.store a v).peek b = v := by
  rw [State.peek_store_same s a b v wf ((external_congr _ _ _ same).trans own) same, if_pos kept]

/-- An address that shows another cell reads as before, where the collaborator does not own both. -/
theorem peek_store_elsewhere {s : State} {a b : Word} (v : Byte)
    (own : external s.params.regions a = false ∨ external s.params.regions b = false)
    (other : cellOf s.params.regions b ≠ cellOf s.params.regions a) : (s.store a v).peek b = s.peek b := by
  cases hb : external s.params.regions b with
  | false => exact State.peek_store_other s a b v hb other
  | true => exact State.peek_store_external s a b v (own.resolve_right (by simp [hb])) hb

/-- A write to an external region is the collaborator's and leaves the listed cells alone (R65 (d)). -/
theorem store_external {s : State} {a : Word} (v : Byte) (owned : external s.params.regions a = true) :
    s.store a v = { s with device := Config.externalWrite s.device (cellOf s.params.regions a) v } := by
  simp [State.store, storeCell, writeDevice, owned]

/-- A read in an external region is answered by the collaborator (R66). -/
theorem peek_external {s : State} {a : Word} (owned : external s.params.regions a = true) :
    s.peek a = (Config.externalRead s.device (cellOf s.params.regions a)).1 := by
  simp [State.peek, owned]

/-- Settles O25: the clauses on writes by the laws of memory, those on regions by the policy of each kind. -/
theorem writePoliciesHold : Obligations.WritePoliciesHold := by
  unfold Obligations.WritePoliciesHold
  intro s a v wf
  refine ⟨fun kept own => ⟨?_, fun b same => ?_⟩, ?_, fun b own other => ?_, fun owned => ⟨?_, ?_⟩, ?_, ?_,
    fun base size target mirrored => ?_, ?_, ?_, ?_⟩
  · exact peek_store_kept v wf kept own rfl
  · exact peek_store_kept v wf kept own same
  · exact State.store_readOnly s a v
  · exact peek_store_elsewhere v own other
  · exact store_external v owned
  · exact peek_external owned
  · exact fun base size declared => policy_normal (by simp [declared])
  · exact fun _ _ => policy_readOnly
  · have shown := cellOf_mirror mirrored
    exact ⟨shown, shown ▸ writable_iff s.params.regions a, shown ▸ external_iff s.params.regions a⟩
  · exact fun _ _ => policy_external
  · exact fun undeclared => policy_normal (by simp [undeclared])
  · exact State.mem_store_wf s a v wf

/-! ## Read-only memory under a step -/

/-- The fetches of a step leave what a read-only address reads as: they change neither cells nor parameters. -/
theorem peek_fetched_readOnly {s : State} {a : Word} (op : Byte) (readOnly : writable s.params.regions a = false) :
    (fetchInstr op (readyToRun s).fetchOpcode.2).2.peek a = s.peek a := by
  have cells : (fetchInstr op (readyToRun s).fetchOpcode.2).2.mem = s.mem := by
    obtain ⟨pc, device, bus, fetched⟩ := fetched_state op (readyToRun s)
    rw [fetched]; rfl
  exact State.peek_congr_own s _ cells (fetched_params s op) a (external_of_readOnly _ _ readOnly)

/-- Settles O16: an idle step writes nothing, interrupt entry is quiet, and the fetches of an instruction, its meaning
and the delayed effect of EI each keep read-only memory. -/
theorem readOnlyNeverChanges : Obligations.ReadOnlyNeverChanges := by
  unfold Obligations.ReadOnlyNeverChanges
  intro s t a h readOnly
  obtain ⟨-, -, rfl⟩ | ⟨-, -, -, rfl⟩ | ⟨-, -, -, -, -, rfl⟩ | ⟨-, ran⟩ := step_cases h
  case inl => rfl
  case inr.inl => rfl
  case inr.inr.inl => exact (interruptEntry_quiet _ _ _).readOnly a readOnly
  case inr.inr.inr =>
    obtain ⟨-, u, executed, rfl⟩ := runInstruction_cases ran
    have executedPeek : u.peek a = s.peek a :=
      (exec_readOnly executed a (by rw [fetched_params]; exact readOnly)).trans (peek_fetched_readOnly _ readOnly)
    split
    next => exact executedPeek
    next => exact executedPeek

end Sys2Proof.Proofs
end

section
/-! The family `30_encoding.md`: the decoder takes back what the encoder gives, UNDEFINED, the profile gate, and a step as
the handler of its opcode byte invoked directly. -/

namespace Sys2Proof.Proofs

open Sys2Proof.Machine Sys2Proof.Laws

/-! ## The bytes the decoder takes -/

/-- R105 has no longer format than OP_NN. -/
theorem operandCount_le_two (op : Byte) : operandCount op ≤ 2 := by
  revert op; decide

/-- The decoder takes the opcode byte and as many operand bytes as it says, whatever follows (R105, R115). -/
theorem decode_operands {op : Byte} {operands : List Byte} (whole : operands.length = operandCount op)
    (rest : List Byte) :
    decode (op :: (operands ++ rest)) = .ok (decodeMain op (operands.getD 0 0) (operands.getD 1 0), rest) := by
  have short := operandCount_le_two op
  match operands with
  | [] => simp [decode, ← whole]
  | [b1] => simp [decode, ← whole]
  | [b1, b2] => simp [decode, ← whole]
  | _ :: _ :: _ :: _ => simp at whole; omega

/-- Where the decoder succeeds, it took an opcode byte and its operand bytes, or the byte 0xCB alone (assumption 14). -/
theorem decode_taken {bytes rest : List Byte} {i : Instr} (h : decode bytes = .ok (i, rest)) :
    i = .prefixCb ∨ ∃ op operands, bytes = op :: (operands ++ rest) ∧ operands.length = operandCount op := by
  match bytes with
  | [] => cases h
  | op :: following =>
    match count : operandCount op, following with
    | 0, _ => simp only [decode, count] at h; cases h; exact .inr ⟨op, [], rfl, count.symm⟩
    | 1, [] =>
      simp only [decode, count] at h
      split at h
      next => cases h; exact .inl rfl
      next => cases h
    | 1, b1 :: _ => simp only [decode, count] at h; cases h; exact .inr ⟨op, [b1], rfl, count.symm⟩
    | _ + 2, [] => simp only [decode, count] at h; cases h
    | _ + 2, [_] => simp only [decode, count] at h; cases h
    | 2, b1 :: b2 :: _ => simp only [decode, count] at h; cases h; exact .inr ⟨op, [b1, b2], rfl, count.symm⟩
    | n + 3, _ => have := operandCount_le_two op; omega

/-- Three bytes hold a whole instruction. -/
theorem decode_threeBytes (op b1 b2 : Byte) : ∃ i rest, decode [op, b1, b2] = .ok (i, rest) := by
  have whole : ([b1, b2].take (operandCount op)).length = operandCount op := by
    simpa using operandCount_le_two op
  have decoded := decode_operands whole ([b1, b2].drop (operandCount op))
  rw [List.take_append_drop] at decoded
  exact ⟨_, _, decoded⟩

/-! ## UNDEFINED (R113, R114) -/

theorem wf_undefined_iff (op : Byte) : (Instr.undefined op).wf = true ↔ op ∈ undefinedOpcodes :=
  List.contains_iff_mem

theorem decodeMain_of_mem {op : Byte} (h : op ∈ undefinedOpcodes) (b1 b2 : Byte) :
    decodeMain op b1 b2 = .undefined op := by
  simp only [undefinedOpcodes, List.mem_cons, List.not_mem_nil, or_false] at h
  obtain rfl | rfl | rfl | rfl | rfl | rfl | rfl | rfl | rfl | rfl | rfl := h <;> rfl

/-- Well-formedness restricts UNDEFINED only, which is loud. -/
theorem wf_of_not_loud {i : Instr} (h : loud i = false) : i.wf = true := by
  unfold Instr.wf
  split
  next => cases h
  next => rfl

/-- Every opcode byte decodes to an instruction of the table (R102): 0xCB by the sub-table, the others one by one. -/
theorem decodeMain_wf (op b1 b2 : Byte) : (decodeMain op b1 b2).wf = true := by
  obtain ⟨n⟩ := op
  fin_cases n
  pick_goal 204 -- 0xCB
  · exact wf_of_not_loud (loud_decodeCb b1)
  all_goals rfl

theorem mem_of_decodeMain {op b1 b2 x : Byte} (h : decodeMain op b1 b2 = .undefined x) : op ∈ undefinedOpcodes := by
  obtain ⟨rfl, -⟩ := decodeMain_undefined h
  exact (wf_undefined_iff x).mp (h ▸ decodeMain_wf x b1 b2)

/-- One of the eleven bytes is a whole instruction. -/
theorem decode_undefined_alone {op : Byte} (h : op ∈ undefinedOpcodes) : decode [op] = .ok (.undefined op, []) := by
  have undef := decodeMain_of_mem h 0 0
  have alone := decode_operands (operands := []) (decodeMain_undefined undef).2.symm []
  rwa [List.getD_nil, List.getD_nil, undef] at alone

/-- Settles O4: the eleven bytes one by one; any other byte decodes to an instruction of the table, and so does a
sub-opcode, whose operation is not loud. -/
theorem undefinedBytesAreEleven : Obligations.UndefinedBytesAreEleven := by
  unfold Obligations.UndefinedBytesAreEleven
  refine ⟨fun op b1 b2 => ⟨fun listed => ?_, fun unlisted x h => ?_⟩, fun sub x h => ?_⟩
  · exact decodeMain_of_mem listed b1 b2
  · exact unlisted (mem_of_decodeMain h)
  · have quiet := loud_decodeCb sub
    rw [h] at quiet
    cases quiet

/-! ## The round trip -/

/-- What the encoder gives for the instruction is decoded to it, and no byte is left. -/
def RoundTrips (i : Instr) : Prop := i.wf = true → decode (encode i) = .ok (i, [])

/-- A 16-bit immediate goes out as its two halves, low byte first, and comes back as the word of them (R108). -/
theorem RoundTrips.of_word {row : Word → Instr} {op : Byte}
    (encoded : ∀ nn, encode (row nn) = [op, loByte nn, hiByte nn])
    (decoded : ∀ lo hi, decode [op, lo, hi] = .ok (row (word hi lo), [])) (nn : Word) : RoundTrips (row nn) := by
  intro _
  rw [encoded, decoded, word_halves]

theorem RoundTrips.undefined (op : Byte) : RoundTrips (.undefined op) := fun wf =>
  decode_undefined_alone ((wf_undefined_iff op).mp wf)

/-- The round trip of every shape of instruction: the row each choice of operands gives is read off both tables. -/
theorem roundTrips (i : Instr) : RoundTrips i :=
  byShape (P := RoundTrips)
    (h_ldRegReg := fun d r _ => by cases d <;> cases r <;> rfl)
    (h_ldRegImm := fun d _ _ => by cases d <;> rfl)
    (h_ldRegIndHL := fun d _ => by cases d <;> rfl)
    (h_ldIndHLReg := fun r _ => by cases r <;> rfl)
    (h_ldPairImm := fun p => by cases p <;> exact .of_word (fun _ => rfl) fun _ _ => rfl)
    (h_loadA := fun m => by
      cases m
      case indNN nn => exact RoundTrips.of_word (row := .ldAIndNN) (fun _ => rfl) (fun _ _ => rfl) nn
      all_goals exact fun _ => rfl)
    (h_storeA := fun m => by
      cases m
      case indNN nn => exact RoundTrips.of_word (row := .ldIndNNA) (fun _ => rfl) (fun _ _ => rfl) nn
      all_goals exact fun _ => rfl)
    (h_inc := fun x _ => by rcases x with (_ | _) | _ <;> rfl)
    (h_dec := fun x _ => by rcases x with (_ | _) | _ <;> rfl)
    (h_incPair := fun p _ => by cases p <;> rfl)
    (h_decPair := fun p _ => by cases p <;> rfl)
    (h_addHL := fun p _ => by cases p <;> rfl)
    (h_alu := fun op x _ => by cases op <;> rcases x with (_ | _) | _ <;> rfl)
    (h_aluImm := fun op _ _ => by cases op <;> rfl)
    (h_push := fun q _ => by cases q <;> rfl)
    (h_pop := fun q _ => by cases q <;> rfl)
    (h_jpCond := fun cc => by cases cc <;> exact .of_word (fun _ => rfl) fun _ _ => rfl)
    (h_jrCond := fun cc _ _ => by cases cc <;> rfl)
    (h_callCond := fun cc => by cases cc <;> exact .of_word (fun _ => rfl) fun _ _ => rfl)
    (h_retCond := fun cc _ => by cases cc <;> rfl)
    (h_rst := fun t _ => by cases t <;> rfl)
    (h_accRot := fun op _ => by cases op <;> rfl)
    (h_shift := fun op x _ => by rcases op with (_ | _) | _ <;> rcases x with (_ | _) | _ <;> rfl)
    (h_bit := fun b x _ => by cases b <;> rcases x with (_ | _) | _ <;> rfl)
    (h_res := fun b x _ => by cases b <;> rcases x with (_ | _) | _ <;> rfl)
    (h_set := fun b x _ => by cases b <;> rcases x with (_ | _) | _ <;> rfl)
    (h_ldIndNNSP := .of_word (fun _ => rfl) fun _ _ => rfl)
    (h_stop := fun _ _ => rfl)
    (h_jrE := fun _ _ => rfl)
    (h_ldIndHLn := fun _ _ => rfl)
    (h_jpNn := .of_word (fun _ => rfl) fun _ _ => rfl)
    (h_callNn := .of_word (fun _ => rfl) fun _ _ => rfl)
    (h_undefined := .undefined)
    (h_addSPe := fun _ _ => rfl)
    (h_ldHLSPe := fun _ _ => rfl)
    (h_nop := fun _ => rfl)
    (h_daa := fun _ => rfl)
    (h_cpl := fun _ => rfl)
    (h_scf := fun _ => rfl)
    (h_ccf := fun _ => rfl)
    (h_halt := fun _ => rfl)
    (h_ret := fun _ => rfl)
    (h_prefixCb := fun _ => rfl)
    (h_reti := fun _ => rfl)
    (h_jpHL := fun _ => rfl)
    (h_di := fun _ => rfl)
    (h_ldSPHL := fun _ => rfl)
    (h_ei := fun _ => rfl)
    i

/-- Settles O2, shape by shape. -/
theorem decodeEncodeRoundTrip : Obligations.DecodeEncodeRoundTrip := by
  unfold Obligations.DecodeEncodeRoundTrip
  exact roundTrips

/-- Settles O1: each word is what the encoder gives for its instruction, so the round trip decodes it. -/
theorem decodeWordsAgree : Obligations.DecodeWordsAgree := by
  unfold Obligations.DecodeWordsAgree
  exact ⟨roundTrips .nop rfl, roundTrips .ldBC rfl, roundTrips (.ldAn 0x42) rfl, roundTrips (.ldBCnn 0x1234) rfl,
    roundTrips (.ldIndNNSP 0xC210) rfl, roundTrips .pushDE rfl, roundTrips (.jpNn 0x0150) rfl,
    roundTrips (.jrZe 0xFC) rfl, roundTrips .rst28 rfl, roundTrips (.undefined 0xDD) rfl, roundTrips .rlcL rfl,
    roundTrips .bit7H rfl, roundTrips .set1E rfl⟩

/-- A whole instruction is encoded as an opcode byte and its operand bytes, which decode to it whatever follows. -/
theorem encode_whole {i : Instr} (wf : i.wf = true) (notCb : i ≠ .prefixCb) :
    ∃ op operands, encode i = op :: operands ∧ operands.length = operandCount op ∧
      ∀ rest, decode (encode i ++ rest) = .ok (i, rest) := by
  have decoded := roundTrips i wf
  obtain ⟨op, operands, encoded, whole⟩ := (decode_taken decoded).resolve_left notCb
  rw [encoded, decode_operands whole] at decoded
  rw [List.append_nil] at encoded
  refine ⟨op, operands, encoded, whole, fun rest => ?_⟩
  rw [encoded, List.cons_append, decode_operands whole, (Prod.mk.inj (Except.ok.inj decoded)).1]

/-- Settles O3: by the round trip, the bytes of an instruction are those the decoder takes for its first byte. -/
theorem firstByteFixesLength : Obligations.FirstByteFixesLength := by
  unfold Obligations.FirstByteFixesLength
  intro i wf notCb
  obtain ⟨op, operands, encoded, whole, decoded⟩ := encode_whole wf notCb
  have short := operandCount_le_two op
  refine ⟨?_, decoded, fun j wfJ notCbJ sameHead => ?_⟩
  · simp only [encoded, List.length_cons, whole]
    omega
  · obtain ⟨opJ, operandsJ, encodedJ, wholeJ, -⟩ := encode_whole wfJ notCbJ
    simp only [encoded, encodedJ, List.head?_cons, Option.some.injEq] at sameHead
    subst sameHead
    simp only [encoded, encodedJ, List.length_cons, whole, wholeJ]

/-! ## Direct invocation (R103, R104) -/

theorem execOpcode_gated {op : Byte} {s : State} (core : s.params.profile = .core) (t2 : isTierT2 op = true) :
    execOpcode op s = .refused (.notSpecifiedBySource op) := by
  simp [execOpcode, profileGate, core, t2]

theorem execOpcode_passed {op : Byte} {s : State} (gate : s.params.profile = .core → isTierT2 op = false) :
    execOpcode op s = exec (fetchInstr op s).1 (fetchInstr op s).2 := by
  have passes : profileGate s op = none := if_neg fun ⟨core, t2⟩ => by simp [gate core] at t2
  rw [execOpcode, passes]

/-- The profile gate refuses, or the meaning of the fetched instruction runs. -/
theorem execOpcode_cases (op : Byte) (s : State) :
    (s.params.profile = .core ∧ isTierT2 op = true ∧ execOpcode op s = .refused (.notSpecifiedBySource op)) ∨
    execOpcode op s = exec (fetchInstr op s).1 (fetchInstr op s).2 := by
  by_cases gate : s.params.profile = .core ∧ isTierT2 op = true
  · exact .inl ⟨gate.1, gate.2, execOpcode_gated gate.1 gate.2⟩
  · exact .inr (execOpcode_passed fun core => Bool.eq_false_iff.mpr fun t2 => gate ⟨core, t2⟩)

theorem execOpcode_params {op : Byte} {s t : State} (h : execOpcode op s = .next t) : t.params = s.params := by
  obtain ⟨-, -, refused⟩ | ran := execOpcode_cases op s
  · cases h.symm.trans refused
  · obtain ⟨pc, device, bus, fetched⟩ := fetchInstr_state op s
    rw [exec_params (ran.symm.trans h), fetched]

/-- The fault of UNDEFINED carries the state the handler was given, for no operand byte is fetched (R422). -/
theorem execOpcode_fault {op : Byte} {s : State} {f : Fault} (h : execOpcode op s = .fault f) :
    ∃ x, f = .undefinedOpcode x s.fetchedAt s := by
  obtain ⟨-, -, refused⟩ | ran := execOpcode_cases op s
  · cases h.symm.trans refused
  · obtain ⟨x, decoded, rfl⟩ := exec_fault (ran.symm.trans h)
    exact ⟨x, by rw [fetchInstr_undefined decoded]⟩

/-- The state after `n` bytes are fetched from pc on (R11, R31). -/
def afterFetches (s : State) (n : Nat) : State :=
  { s with
    pc := s.pc + BitVec.ofNat 16 n, device := deviceAfter s.params s.device (readsFrom s s.pc n),
    bus := s.bus ++ readsFrom s s.pc n }

/-- The handler of an opcode byte is the meaning of what it and the bytes from pc on decode to, with the operand bytes
fetched. -/
theorem execOpcode_decoded {op : Byte} {s : State} {i : Instr} {rest : List Byte}
    (gate : s.params.profile = .core → isTierT2 op = false) (cb : s.params.cbExt = .refuse → op ≠ 0xCB)
    (decoded : decode (op :: bytesFrom s s.pc 2) = .ok (i, rest)) :
    execOpcode op s = exec i (afterFetches s (2 - rest.length)) := by
  rw [execOpcode_passed gate, (fetchInstr_decode op s i rest cb decoded).2]
  rfl

/-- The state in which a step invokes the handler: the check is made and the opcode byte fetched (R101, R443). -/
def afterOpcode (s : State) : State :=
  { s with
    fetchedAt := s.pc, cycles := 0, pc := s.pc + 1, device := readDevice s.params s.device s.pc,
    bus := checkReads s ++ [.read s.pc (s.peek s.pc)] }

/-- What the handler answers after the opcode fetch, the step answers, with the delayed effect of EI. -/
theorem step_of_execOpcode {s : State} (runs : RunsNext s) (noBug : s.haltBug = false) :
    (∀ t, execOpcode (s.peek s.pc) (afterOpcode s) = .next t → step s = .next (afterInstruction s t)) ∧
    (∀ f, execOpcode (s.peek s.pc) (afterOpcode s) = .fault f → step s = .fault f) ∧
    (∀ r, execOpcode (s.peek s.pc) (afterOpcode s) = .refused r → step s = .refused r) := by
  have stepped : step s = finishStep s (execOpcode (s.peek s.pc) (afterOpcode s)) := step_runs_fetched s runs noBug
  refine ⟨fun t h => ?_, fun f h => ?_, fun r h => ?_⟩
  · have params : t.params = (afterOpcode s).params := execOpcode_params h
    rw [stepped, h, finishStep, afterInstruction, params]
    rfl
  · obtain ⟨x, rfl⟩ := execOpcode_fault h
    rw [stepped, h]
    rfl
  · rw [stepped, h]
    rfl

/-- Settles O60: the gate and the operand fetch of direct invocation, and the step as the handler after the fetch. -/
theorem stepIsDirectInvocationAfterFetch : Obligations.StepIsDirectInvocationAfterFetch := by
  unfold Obligations.StepIsDirectInvocationAfterFetch
  refine ⟨fun op s gate cb => ?_, fun op s core t2 => ?_, fun s runs noBug => ?_⟩
  · obtain ⟨i, rest, decoded⟩ := decode_threeBytes op (s.peek s.pc) ((s.afterRead s.pc).peek (s.pc + 1))
    refine ⟨i, rest, decoded, ?_⟩
    simp only [execOpcode_decoded gate cb decoded, readsFrom_length]
    rfl
  · exact execOpcode_gated core t2
  · exact step_of_execOpcode runs noBug

/-- The operand bytes of a step are read on from the address after the opcode's. -/
theorem readsFrom_afterOpcode (s : State) (n : Nat) :
    readsFrom (afterOpcode s) (s.pc + 1) n = readsFrom (s.afterRead s.pc) (s.pc + 1) n ∧
    bytesFrom (afterOpcode s) (s.pc + 1) n = bytesFrom (s.afterRead s.pc) (s.pc + 1) n :=
  readsFrom_congr (s.afterRead s.pc) (afterOpcode s) rfl rfl rfl (s.pc + 1) n

/-- The fetch of the opcode byte and then of `n` operand bytes is one of `n + 1` bytes from pc on. -/
theorem afterFetches_afterOpcode (s : State) (n : Nat) :
    afterFetches (afterOpcode s) n =
      { s with
        fetchedAt := s.pc, cycles := 0, pc := s.pc + BitVec.ofNat 16 (n + 1),
        device := deviceAfter s.params s.device (readsFrom s s.pc (n + 1)),
        bus := checkReads s ++ readsFrom s s.pc (n + 1) } := by
  have operands : readsFrom (afterOpcode s) (afterOpcode s).pc n = readsFrom (s.afterRead s.pc) (s.pc + 1) n :=
    (readsFrom_afterOpcode s n).1
  have pc : s.pc + 1 + BitVec.ofNat 16 n = s.pc + BitVec.ofNat 16 (n + 1) := by
    rw [Nat.add_comm n, BitVec.ofNat_add, ← BitVec.add_assoc]
    rfl
  rw [afterFetches, operands, readsFrom_succ, ← pc]
  simp [afterOpcode]

/-- Settles O6: the handler the step invokes is that of the instruction the bytes at pc decode to. -/
theorem stepRunsDecoded : Obligations.StepRunsDecoded := by
  unfold Obligations.StepRunsDecoded
  intro s i rest decoded runs noBug gate cb
  have fetched : decode (s.peek s.pc :: bytesFrom (afterOpcode s) (afterOpcode s).pc 2) = .ok (i, rest) :=
    (congrArg (fun operands => decode (s.peek s.pc :: operands)) (readsFrom_afterOpcode s 2).2).trans decoded
  have short : rest.length ≤ 2 := (fetchInstr_decode _ (afterOpcode s) i rest cb fetched).1
  have ran := execOpcode_decoded (s := afterOpcode s) gate cb fetched
  rw [afterFetches_afterOpcode, show 2 - rest.length + 1 = 3 - rest.length by omega] at ran
  have outcome := step_of_execOpcode runs noBug
  rw [ran] at outcome
  exact outcome

/-! ## The profile gate in a step (R103) -/

/-- A meaning is refused only where the first byte of its instruction is of tier T2, and never as the gate refuses. -/
theorem exec_refused_tier {i : Instr} {s : State} {r : Refusal} (h : exec i s = .refused r) :
    isTierT2 ((encode i).headD 0) = true ∧ ∀ op, r ≠ .notSpecifiedBySource op := by
  obtain rfl | ⟨pad, rfl⟩ | rfl := exec_refused_cases h
  · obtain ⟨-, -, -, -, -, rfl⟩ := exec_halt_refused h
    exact ⟨isTierT2_of_encode rfl rfl, nofun⟩
  · obtain ⟨-, rfl⟩ := exec_stop_refused h
    exact ⟨isTierT2_of_encode rfl rfl, nofun⟩
  · obtain ⟨-, rfl⟩ := exec_prefixCb_refused h
    exact ⟨isTierT2_of_encode rfl rfl, nofun⟩

/-- What the handler of an opcode byte refuses is of tier T2, and as the gate does only under PROFILE = CORE. -/
theorem execOpcode_refused {op : Byte} {s : State} {r : Refusal} (h : execOpcode op s = .refused r) :
    isTierT2 op = true ∧ ∀ x, r = .notSpecifiedBySource x → s.params.profile = .core := by
  obtain ⟨core, t2, -⟩ | ran := execOpcode_cases op s
  · exact ⟨t2, fun _ _ => core⟩
  · obtain ⟨t2, other⟩ := exec_refused_tier (ran.symm.trans h)
    rw [encode_headD (fetchInstr_head op s)] at t2
    exact ⟨t2, fun x e => absurd e (other x)⟩

/-- Points 1 to 3 of R443 change no parameter. -/
theorem prepare_params {s t : State} (h : prepare s.beginStep = .run t) : t.params = s.params := by
  cases profile : s.params.profile with
  | core => rw [prepare_core s profile] at h; cases h; rfl
  | full =>
    cases stopped : s.stopped with
    | true => rw [prepare_stopped s profile stopped] at h; cases h
    | false =>
      cases irq : s.params.irq with
      | none =>
        rw [prepare_noIrq s profile irq stopped] at h
        split at h <;> cases h
        rfl
      | canonical =>
        rw [prepare_canonical s profile irq stopped] at h
        dsimp only at h
        split at h
        next => cases h
        next => split at h <;> cases h; rfl

/-- A step is refused where its instruction is. -/
theorem step_refused {s : State} {r : Refusal} (h : step s = .refused r) :
    ∃ t, prepare s.beginStep = .run t ∧ execOpcode (t.peek t.pc) t.fetchOpcode.2 = .refused r := by
  unfold step at h
  split at h
  next => cases h
  next t running =>
    refine ⟨t, running, ?_⟩
    rw [runInstruction, State.fetchOpcode_val] at h
    cases outcome : execOpcode (t.peek t.pc) t.fetchOpcode.2 with
    | next u => rw [outcome] at h; cases h
    | fault f => rw [outcome] at h; cases f; cases h
    | refused q => rw [outcome] at h; cases h; rfl

/-- Under PROFILE = CORE a step is the opcode fetch and the handler, whatever the bits of R40 (assumption 15). -/
theorem step_core {s : State} (core : s.params.profile = .core) :
    step s = finishStep s (execOpcode (s.peek s.pc) s.checked.fetchOpcode.2) := by
  rw [step, prepare_core s core]
  rfl

/-- Settles O12: the gate comes first; past it only an opcode of tier T2 is refused, and not as the gate refuses; the tiers
are compared byte by byte. -/
theorem profileGateByTier : Obligations.ProfileGateByTier := by
  unfold Obligations.ProfileGateByTier
  refine ⟨fun s core t2 => ?_, fun s r core t1 h => ?_, fun s op full h => ?_, ?_⟩
  · have gated := execOpcode_gated (s := s.checked.fetchOpcode.2) core t2
    rw [step_core core, gated]
    rfl
  · obtain ⟨t, running, refused⟩ := step_refused h
    rw [prepare_core s core] at running
    cases running
    exact Bool.false_ne_true (t1.symm.trans (execOpcode_refused refused).1)
  · obtain ⟨t, running, refused⟩ := step_refused h
    have core : t.params.profile = .core := (execOpcode_refused refused).2 op rfl
    rw [prepare_params running, full] at core
    cases core
  · decide

end Sys2Proof.Proofs
end

section
/-! The family `40_alu_functions.md`: the flag and ALU functions in bit-vector arithmetic. -/

namespace Sys2Proof.Proofs

open Sys2Proof.Machine

/-! ## Addition and subtraction (R141, R142, R153) -/

theorem wrap8_natCast (n : Nat) : wrap8 n = BitVec.ofNat 8 n := BitVec.ofInt_natCast 8 n

theorem wrap8_sub (m n : Int) : wrap8 (m - n) = wrap8 m - wrap8 n := by
  apply BitVec.eq_of_toInt_eq
  simp [wrap8]

theorem wrap8_toNat_self (a : Byte) : wrap8 a.toNat = a := by
  rw [wrap8_natCast, BitVec.ofNat_toNat, BitVec.setWidth_eq]

theorem add8_result (a b : Byte) (cin : Bool) :
    (add8 a b cin).1.toNat = (a.toNat + b.toNat + bit cin) % 256 := by
  rw [add8, wrap8_natCast, BitVec.toNat_ofNat]

theorem add8_flags (a b : Byte) (cin : Bool) :
    (add8 a b cin).2 =
      { z := (add8 a b cin).1 == 0, n := false,
        h := decide ((a &&& 15).toNat + (b &&& 15).toNat + bit cin > 15),
        c := decide (a.toNat + b.toNat + bit cin > 255) } := by
  rw [and_15, and_15]; rfl

theorem sub8_result (a b : Byte) (cin : Bool) : (sub8 a b cin).1 = a - b - BitVec.ofNat 8 (bit cin) := by
  rw [sub8, wrap8_sub, wrap8_sub, wrap8_toNat_self, wrap8_toNat_self, wrap8_natCast]

/-- A borrow is a difference below zero, and a difference is below zero where the first operand is the smaller. -/
theorem sub8_flags (a b : Byte) (cin : Bool) :
    (sub8 a b cin).2 =
      { z := (sub8 a b cin).1 == 0, n := true,
        h := decide ((a &&& 15).toNat < (b &&& 15).toNat + bit cin),
        c := decide (a.toNat < b.toNat + bit cin) } := by
  have half : ((a.toNat % 16 : Nat) : Int) - (b.toNat % 16 : Nat) - bit cin < 0 ↔
      (a &&& 15).toNat < (b &&& 15).toNat + bit cin := by
    rw [and_15, and_15]; omega
  have full : (a.toNat : Int) - b.toNat - bit cin < 0 ↔ a.toNat < b.toNat + bit cin := by omega
  simp only [sub8, half, full]

/-- CP is SUB without its result: Z says that the operands are equal (R153). -/
theorem cp8_eq (a b : Byte) :
    cp8 a b =
      { z := decide (a = b), n := true,
        h := decide ((a &&& 15).toNat < (b &&& 15).toNat), c := decide (a.toNat < b.toNat) } := by
  have difference : (sub8 a b false).1 = a - b := (sub8_result a b false).trans (BitVec.sub_zero (a - b))
  have equal : (a - b == 0) = decide (a = b) := by
    rw [Bool.eq_iff_iff, beq_iff_eq, decide_eq_true_iff, sub_eq_zero]
  rw [cp8, sub8_flags, difference, equal]
  rfl

/-- Settles O27: results modulo 256, and carries and borrows compared in the naturals. -/
theorem addSub8ResultsAndFlags : Obligations.AddSub8ResultsAndFlags := by
  unfold Obligations.AddSub8ResultsAndFlags
  exact ⟨fun a b cin => ⟨add8_result a b cin, add8_flags a b cin⟩,
    fun a b cin => ⟨sub8_result a b cin, sub8_flags a b cin⟩, cp8_eq⟩

/-! ## Logic and single bits (R151, R152, R156) -/

theorem xor8_eq (a b : Byte) : xor8 a b = (a ^^^ b, { z := decide (a = b), n := false, h := false, c := false }) := by
  have zero : (a ^^^ b == 0) = decide (a = b) := by
    rw [Bool.eq_iff_iff, beq_iff_eq, decide_eq_true_iff]; exact BitVec.xor_eq_zero_iff
  rw [xor8, zero]

theorem or8_eq (a b : Byte) :
    or8 a b = (a ||| b, { z := decide (a = 0 ∧ b = 0), n := false, h := false, c := false }) := by
  have zero : (a ||| b == 0) = decide (a = 0 ∧ b = 0) := by
    rw [Bool.eq_iff_iff, beq_iff_eq, decide_eq_true_iff]; exact BitVec.or_eq_zero_iff
  rw [or8, zero]

/-- The mask `2 ^ i` has bit `i` and no other. -/
theorem getLsbD_one_shiftLeft {i k : Nat} (hk : k < 8) : (1#8 <<< i).getLsbD k = decide (k = i) := by
  rw [BitVec.getLsbD_shiftLeft, BitVec.getLsbD_one, Bool.eq_iff_iff]
  simp; omega

theorem getLsbD_res8 (b : BitNo) (a : Byte) {k : Nat} (hk : k < 8) :
    (res8 b a).getLsbD k = (decide (k ≠ bitIndex b) && a.getLsbD k) := by
  rw [res8_eq, BitVec.getLsbD_and, BitVec.getLsbD_not, getLsbD_one_shiftLeft hk, Bool.and_comm, decide_eq_true hk,
    Bool.true_and, decide_not]

theorem getLsbD_set8 (b : BitNo) (a : Byte) {k : Nat} (hk : k < 8) :
    (set8 b a).getLsbD k = (decide (k = bitIndex b) || a.getLsbD k) := by
  rw [set8_eq, BitVec.getLsbD_or, getLsbD_one_shiftLeft hk, Bool.or_comm]

/-- Settles O28: Z by when each result is zero, and RES and SET by the one bit of their mask. -/
theorem logicAndBitsResultsAndFlags : Obligations.LogicAndBitsResultsAndFlags := by
  unfold Obligations.LogicAndBitsResultsAndFlags
  exact ⟨fun a b => ⟨rfl, xor8_eq a b, or8_eq a b⟩,
    fun b a f => ⟨rfl, fun _ => getLsbD_res8 b a, fun _ => getLsbD_set8 b a⟩⟩

/-! ## Rotates and shifts (R155) -/

/-- A multiple of a power of two and a number below that power share no bit, so their sum is their disjunction. -/
theorem wrap8_of_parts {i high low : Nat} {x y : Byte} (hx : x.toNat = 2 ^ i * high) (hy : y.toNat = low)
    (small : low < 2 ^ i) : wrap8 (2 ^ i * high + low : Nat) = x ||| y := by
  have whole : (x ||| y).toNat = 2 ^ i * high + low := by
    rw [BitVec.toNat_or, hx, hy, Nat.two_pow_add_eq_or_of_lt small]
  rw [← whole, wrap8_toNat_self]

theorem toNat_shiftRight (a : Byte) (k : Nat) : (a >>> k).toNat = a.toNat / 2 ^ k := by
  rw [BitVec.toNat_ushiftRight, Nat.shiftRight_eq_div_pow]

theorem wrap8_div_two (a : Byte) : wrap8 (a.toNat / 2 : Nat) = a >>> 1 := by
  rw [← wrap8_toNat_self (a >>> 1), toNat_shiftRight]
  rfl

theorem wrap8_mul_two (a : Byte) : wrap8 (a.toNat * 2 : Nat) = a <<< 1 := by
  apply BitVec.eq_of_toNat_eq
  rw [wrap8_natCast, BitVec.toNat_ofNat, BitVec.toNat_shiftLeft, Nat.shiftLeft_eq]

theorem bit_lt_two (c : Bool) : bit c < 2 := by
  cases c <;> decide

theorem bit_getLsbD (a : Byte) (k : Nat) : bit (a.getLsbD k) = a.toNat / 2 ^ k % 2 := by
  rw [← Nat.toNat_testBit, ← BitVec.testBit_toNat]
  cases a.toNat.testBit k <;> rfl

/-- The value moved left leaves bit 0 to the bit brought in. -/
theorem shiftLeft_withBit (a : Byte) (c : Bool) :
    wrap8 (a.toNat * 2 % 256 + bit c : Nat) = a <<< 1 ||| BitVec.ofNat 8 (bit c) := by
  have small := bit_lt_two c
  rw [show a.toNat * 2 % 256 + bit c = 2 ^ 1 * (a.toNat % 128) + bit c by omega]
  refine wrap8_of_parts ?_ ?_ small
  · rw [BitVec.toNat_shiftLeft, Nat.shiftLeft_eq]; omega
  · rw [BitVec.toNat_ofNat]; omega

/-- The value moved right leaves bit 7 to the bit brought in. -/
theorem shiftRight_withBit (a : Byte) (c : Bool) :
    wrap8 (a.toNat / 2 + bit c * 128 : Nat) = a >>> 1 ||| BitVec.ofNat 8 (128 * bit c) := by
  have small := bit_lt_two c
  rw [show a.toNat / 2 + bit c * 128 = 2 ^ 7 * bit c + a.toNat / 2 by omega, BitVec.or_comm]
  refine wrap8_of_parts ?_ (toNat_shiftRight a 1) (by omega)
  rw [BitVec.toNat_ofNat]; omega

theorem ofNat_bit7 (a : Byte) : BitVec.ofNat 8 (bit (a.getLsbD 7)) = a >>> 7 := by
  apply BitVec.eq_of_toNat_eq
  rw [bit_getLsbD, BitVec.toNat_ofNat, BitVec.toNat_ushiftRight, Nat.shiftRight_eq_div_pow]
  omega

theorem ofNat_bit0_top (a : Byte) : BitVec.ofNat 8 (128 * bit (a.getLsbD 0)) = a <<< 7 := by
  apply BitVec.eq_of_toNat_eq
  rw [bit_getLsbD, BitVec.toNat_ofNat, BitVec.toNat_shiftLeft, Nat.shiftLeft_eq]
  omega

theorem ofNat_bit7_top (a : Byte) : BitVec.ofNat 8 (128 * bit (a.getLsbD 7)) = a &&& 128 := by
  apply BitVec.eq_of_toNat_eq
  have masked : (a &&& 128).toNat = (a.toNat.testBit 7).toNat * 2 ^ 7 := Nat.and_two_pow a.toNat 7
  rw [masked, Nat.toNat_testBit, bit_getLsbD, BitVec.toNat_ofNat]
  omega

theorem shiftValue_rlc (a : Byte) (cin : Bool) : shiftValue (.rot .rlc) a cin = (a.rotateLeft 1, a.getLsbD 7) := by
  have rotated : a.rotateLeft 1 = a <<< 1 ||| a >>> 7 := rfl
  rw [rotated, ← ofNat_bit7, ← shiftLeft_withBit]
  rfl

theorem shiftValue_rrc (a : Byte) (cin : Bool) : shiftValue (.rot .rrc) a cin = (a.rotateRight 1, a.getLsbD 0) := by
  have rotated : a.rotateRight 1 = a >>> 1 ||| a <<< 7 := rfl
  rw [rotated, ← ofNat_bit0_top, ← shiftRight_withBit]
  rfl

theorem shiftValue_rl (a : Byte) (cin : Bool) :
    shiftValue (.rot .rl) a cin = (a <<< 1 ||| BitVec.ofNat 8 (bit cin), a.getLsbD 7) := by
  rw [← shiftLeft_withBit]; rfl

theorem shiftValue_rr (a : Byte) (cin : Bool) :
    shiftValue (.rot .rr) a cin = (a >>> 1 ||| BitVec.ofNat 8 (128 * bit cin), a.getLsbD 0) := by
  rw [← shiftRight_withBit]; rfl

theorem shiftValue_sla (a : Byte) (cin : Bool) : shiftValue .sla a cin = (a <<< 1, a.getLsbD 7) := by
  rw [← wrap8_mul_two]; rfl

theorem shiftValue_sra (a : Byte) (cin : Bool) : shiftValue .sra a cin = (a >>> 1 ||| (a &&& 128), a.getLsbD 0) := by
  rw [← ofNat_bit7_top, ← shiftRight_withBit]; rfl

theorem shiftValue_srl (a : Byte) (cin : Bool) : shiftValue .srl a cin = (a >>> 1, a.getLsbD 0) := by
  rw [← wrap8_div_two]; rfl

theorem shiftValue_swap (a : Byte) (cin : Bool) :
    shiftValue .swap a cin = ((a &&& 15) <<< 4 ||| a >>> 4, false) := by
  have raised : ((a &&& 15) <<< 4).toNat = 2 ^ 4 * (a.toNat % 16) := by
    rw [BitVec.toNat_shiftLeft, Nat.shiftLeft_eq, and_15]; omega
  rw [← wrap8_of_parts raised (toNat_shiftRight a 4) (by omega), Nat.mul_comm]
  rfl

/-- Settles O29, row by row of the table of R155. -/
theorem rotatesAndShiftsResultsAndFlags : Obligations.RotatesAndShiftsResultsAndFlags := by
  unfold Obligations.RotatesAndShiftsResultsAndFlags
  exact ⟨fun a cin => ⟨shiftValue_rlc a cin, shiftValue_rrc a cin, shiftValue_rl a cin, shiftValue_rr a cin,
      shiftValue_sla a cin, shiftValue_sra a cin, shiftValue_srl a cin, shiftValue_swap a cin⟩,
    fun _ _ _ => rfl, fun _ _ _ => rfl⟩

end Sys2Proof.Proofs
end

section
/-! What an instruction keeps, composed from what each operation on the state keeps. -/

namespace Sys2Proof.Machine

variable {s t u : State} {regs : List Reg} {stored : List Word}

theorem Kept.refl (s : State) : Kept s s regs stored :=
  ⟨fun _ _ => rfl, fun _ _ _ => rfl, rfl, rfl, rfl, rfl, rfl, rfl, rfl⟩

theorem Kept.trans (h : Kept s t regs stored) (k : Kept t u regs stored) : Kept s u regs stored := by
  obtain ⟨reg, peek, ime, eiDelay, halted, stopped, haltBug, params, fetchedAt⟩ := h
  obtain ⟨reg', peek', ime', eiDelay', halted', stopped', haltBug', params', fetchedAt'⟩ := k
  rw [params] at peek'
  exact ⟨fun r hr => (reg' r hr).trans (reg r hr), fun a own other => (peek' a own other).trans (peek a own other),
    ime'.trans ime, eiDelay'.trans eiDelay, halted'.trans halted, stopped'.trans stopped, haltBug'.trans haltBug,
    params'.trans params, fetchedAt'.trans fetchedAt⟩

theorem Kept.setReg (h : Kept s t regs stored) {r : Reg} (listed : r ∈ regs) (v : Byte) :
    Kept s (t.setReg r v) regs stored :=
  h.trans ⟨fun q hq => State.reg_setReg_other t r q v fun e => hq (e ▸ listed), by simp, by simp, by simp, by simp,
    by simp, by simp, by simp, by simp⟩

theorem Kept.setPair (h : Kept s t regs stored) {p : Pair} (listed : ∀ r ∈ pairRegs p, r ∈ regs) (v : Word) :
    Kept s (t.setPair p v) regs stored :=
  h.trans ⟨fun q hq => State.reg_setPair_other t p v q fun e => hq (listed q e), by simp, by simp, by simp, by simp,
    by simp, by simp, by simp, by simp⟩

theorem Kept.setFlags (h : Kept s t regs stored) (f : Flags) : Kept s (t.setFlags f) regs stored :=
  h.trans (Kept.refl t)

theorem Kept.report (h : Kept s t regs stored) (n : Nat) : Kept s (t.report n) regs stored :=
  h.trans (Kept.refl t)

theorem Kept.readOperand (h : Kept s t regs stored) (x : Operand) : Kept s (t.readOperand x).2 regs stored :=
  h.trans ⟨by simp, fun a own _ => State.peek_readOperand_own t x a own, by simp, by simp, by simp, by simp, by simp,
    by simp, by simp⟩

theorem Kept.writeOperand (h : Kept s t regs stored) {x : Operand} (listed : ∀ r ∈ operandRegs x, r ∈ regs)
    (cells : ∀ a ∈ operandAddrs t x, a ∈ stored) (v : Byte) : Kept s (t.writeOperand x v) regs stored :=
  h.trans ⟨fun q hq => State.reg_writeOperand_other t x v q fun e => hq (listed q e),
    fun a own other => State.peek_writeOperand_other t x v a own fun b hb => other b (cells b hb),
    by simp, by simp, by simp, by simp, by simp, by simp, by simp⟩

end Sys2Proof.Machine
end

section
/-! The family `40_alu_functions.md`: the instructions that step, add 16 bits, displace SP or adjust the flags and A. -/

namespace Sys2Proof.Proofs

open Sys2Proof.Machine Sys2Proof.Laws

/-! ## INC and DEC (R143, R144, R146, R240 to R245) -/

theorem encode_inc (x : Operand) : encode (Row.inc x) = [BitVec.ofNat 8 (0x04 + 8 * operandNumber x)] := by
  rcases x with (_ | _) | _ <;> rfl

theorem encode_dec (x : Operand) : encode (Row.dec x) = [BitVec.ofNat 8 (0x05 + 8 * operandNumber x)] := by
  rcases x with (_ | _) | _ <;> rfl

/-- The state INC and DEC leave: the operand read, `v` written back to it, all four flags set. -/
def rewriteOperand (s : State) (x : Operand) (v : Byte) (f : Flags) (n : Nat) : State :=
  (((s.readOperand x).2.writeOperand x v).setFlags f).report n

theorem exec_inc_eq (x : Operand) (s : State) :
    exec (Row.inc x) s = .next (rewriteOperand s x (operandValue s x + 1)
      { z := operandValue s x + 1 == 0, n := false, h := operandValue s x &&& 15 == 15, c := s.flags.c }
      (s.count (.inc x))) := by
  rw [exec_inc, inc_eq, inc8_eq]; rfl

theorem exec_dec_eq (x : Operand) (s : State) :
    exec (Row.dec x) s = .next (rewriteOperand s x (operandValue s x - 1)
      { z := operandValue s x - 1 == 0, n := true, h := operandValue s x &&& 15 == 0, c := s.flags.c }
      (s.count (.dec x))) := by
  rw [exec_dec, dec_eq, dec8_eq]; rfl

theorem rewriteOperand_holds {s : State} (x : Operand) (v : Byte) (f : Flags) (n : Nat)
    (wf : Memory.wf s.mem = true) : OperandHolds s (rewriteOperand s x v f n) x v :=
  State.writeOperand_holds s _ x v wf (fun r => by simp [rewriteOperand])
    fun a own => by simpa [rewriteOperand] using State.peek_readOperand_writeOperand s x x v a own

theorem rewriteOperand_kept (s : State) (x : Operand) (v : Byte) (f : Flags) (n : Nat) :
    Kept s (rewriteOperand s x v f n) (operandRegs x) (operandAddrs s x) :=
  ((((Kept.refl s).readOperand x).writeOperand (fun _ h => h) (by simp) v).setFlags f).report n

theorem rewriteOperand_ends (s : State) (x : Operand) (v : Byte) (f : Flags) (n : Nat) :
    Ends s (rewriteOperand s x v f n) f s.sp s.pc (operandReads s x ++ operandWrites s v x) n := by
  simp [Ends, rewriteOperand]

/-- Settles O39: both are one read and one write of the operand, with the flags of inc8 and dec8. -/
theorem incDecKeepCarry : Obligations.IncDecKeepCarry := by
  unfold Obligations.IncDecKeepCarry
  exact ⟨fun x => ⟨encode_inc x, encode_dec x⟩,
    fun x s wf => ⟨_, exec_inc_eq x s, rewriteOperand_holds x _ _ _ wf, rewriteOperand_kept s x _ _ _,
      rewriteOperand_ends s x _ _ _⟩,
    fun x s wf => ⟨_, exec_dec_eq x s, rewriteOperand_holds x _ _ _ wf, rewriteOperand_kept s x _ _ _,
      rewriteOperand_ends s x _ _ _⟩,
    fun _ => ⟨rfl, rfl⟩, rfl, rfl⟩

theorem setPair_kept (s : State) (p : Pair) (v : Word) (n : Nat) :
    Kept s ((s.setPair p v).report n) (pairRegs p) [] :=
  ((Kept.refl s).setPair (fun _ h => h) v).report n

theorem setPair_ends (s : State) (p : Pair) (v : Word) (n : Nat) :
    Ends s ((s.setPair p v).report n) s.flags (if p = .SP then v else s.sp) s.pc [] n := by
  simp [Ends, State.setPair_sp]

theorem exec_incPair_eq (p : Pair) (s : State) :
    exec (Row.incPair p) s = .next ((s.setPair p (s.pair p + 1)).report (s.count (.incPair p))) := by
  rw [exec_incPair, ← inc16_eq]; rfl

theorem exec_decPair_eq (p : Pair) (s : State) :
    exec (Row.decPair p) s = .next ((s.setPair p (s.pair p - 1)).report (s.count (.decPair p))) := by
  rw [exec_decPair, ← dec16_eq]; rfl

/-- Settles O40: both write the pair alone. -/
theorem incDecPairTouchNoFlag : Obligations.IncDecPairTouchNoFlag := by
  unfold Obligations.IncDecPairTouchNoFlag
  refine ⟨fun p => ?_, fun p s => ⟨_, exec_incPair_eq p s, by simp, setPair_kept s p _ _, ?_⟩,
    fun p s => ⟨_, exec_decPair_eq p s, by simp, setPair_kept s p _ _, ?_⟩, fun _ => ⟨rfl, rfl⟩⟩
  · cases p <;> exact ⟨rfl, rfl⟩
  · cases p <;> exact setPair_ends s _ _ _
  · cases p <;> exact setPair_ends s _ _ _

/-! ## 16-bit sums (R145, R154, R300 to R303) -/

theorem setPair_setFlags_kept (s : State) (p : Pair) (v : Word) (f : Flags) (n : Nat) :
    Kept s (((s.setPair p v).setFlags f).report n) (pairRegs p) [] :=
  (((Kept.refl s).setPair (fun _ h => h) v).setFlags f).report n

theorem setPair_setFlags_ends (s : State) (p : Pair) (v : Word) (f : Flags) (n : Nat) :
    Ends s (((s.setPair p v).setFlags f).report n) f (if p = .SP then v else s.sp) s.pc [] n := by
  simp [Ends, State.setPair_sp]

/-- Settles O44: HL takes the sum and the flags those of add16, which keeps Z. -/
theorem addHLKeepsZero : Obligations.AddHLKeepsZero := by
  unfold Obligations.AddHLKeepsZero
  refine ⟨fun p => ?_, fun p s => ?_, fun _ => rfl⟩
  · cases p <;> rfl
  · have runs : exec (Row.addHL p) s = _ := (exec_addHL p s).trans (addHL_eq s p)
    rw [add16_eq] at runs
    exact ⟨_, runs, State.hl_setPair s _, setPair_setFlags_kept s .HL _ _ _, setPair_setFlags_ends s .HL _ _ _⟩

/-- The fetch of an instruction with one operand byte (R107). -/
theorem fetchInstr_oneOperand {op : Byte} (notCb : op ≠ 0xCB) (count : operandCount op = 1) (s : State) :
    fetchInstr op s = (decodeMain op (operandByte s) 0, afterOperand s) := by
  rw [fetchInstr_count s op fun _ => notCb, count]; rfl

/-- Settles O45: addsp gives the value and the flags under each setting of SPDISP_FLAGS; SP or HL takes the value. -/
theorem spDisplacementResults : Obligations.SpDisplacementResults := by
  unfold Obligations.SpDisplacementResults
  refine ⟨fun _ => ⟨rfl, rfl⟩, fun s => ⟨?_, ?_⟩, fun e s => ⟨?_, ?_⟩, rfl, rfl⟩
  · exact fetchInstr_oneOperand (by decide) (by decide) s
  · exact fetchInstr_oneOperand (by decide) (by decide) s
  · have runs : exec (.addSPe e) s = _ := execAddSPe_eq s e
    rw [addsp_eq] at runs
    exact ⟨_, runs, setPair_setFlags_kept s .SP _ _ _, setPair_setFlags_ends s .SP _ _ _⟩
  · have runs : exec (.ldHLSPe e) s = _ := execLdHLSPe_eq s e
    rw [addsp_eq] at runs
    exact ⟨_, runs, State.hl_setPair s _, setPair_setFlags_kept s .HL _ _ _, setPair_setFlags_ends s .HL _ _ _⟩

/-! ## DAA, CPL, SCF, CCF (R157, R364 to R367) -/

/-- DAA after a subtraction takes back 0x06 and 0x60 as H and C say, and keeps C. -/
theorem daa_afterSub (a : Byte) {f : Flags} (sub : f.n = true) :
    (daa a f).1 = a - (if f.h = true then 0x06 else 0) - (if f.c = true then 0x60 else 0) ∧
    (daa a f).2 = { z := (daa a f).1 == 0, n := true, h := false, c := f.c } := by
  have adjustment : wrap8 (((if f.h then 0x06 else 0) + (if f.c then 0x60 else 0) : Nat) : Int) =
      (if f.h = true then 0x06 else 0) + (if f.c = true then 0x60 else 0) := by
    cases f.h <;> cases f.c <;> rfl
  refine ⟨?_, by simp [daa, sub]⟩
  rw [daa, if_pos sub, sub_sub, ← adjustment, ← wrap8_toNat_self a, ← wrap8_sub, wrap8_toNat_self]

/-- DAA after an addition adds 0x06 and 0x60 as H, C and the two digits say; C records 0x60. -/
theorem daa_afterAdd (a : Byte) {f : Flags} (add : f.n = false) :
    (daa a f).1.toNat = (a.toNat + (if f.h = true ∨ a.toNat % 16 > 9 then 0x06 else 0) +
      (if f.c = true ∨ a.toNat > 0x99 then 0x60 else 0)) % 256 ∧
    (daa a f).2 =
      { z := (daa a f).1 == 0, n := false, h := false, c := f.c || decide (a.toNat > 0x99) } := by
  have notSub : ¬ f.n = true := by simp [add]
  refine ⟨?_, by simp [daa, add]⟩
  simp only [daa, if_neg notSub, wrap8_natCast, BitVec.toNat_ofNat, Nat.add_assoc, Bool.or_eq_true,
    decide_eq_true_iff]

theorem setReg_setFlags_kept (s : State) (r : Reg) (v : Byte) (f : Flags) (n : Nat) :
    Kept s (((s.setReg r v).setFlags f).report n) [r] [] :=
  (((Kept.refl s).setReg (List.mem_singleton_self r) v).setFlags f).report n

theorem setReg_setFlags_ends (s : State) (r : Reg) (v : Byte) (f : Flags) (n : Nat) :
    Ends s (((s.setReg r v).setFlags f).report n) f s.sp s.pc [] n := by
  simp [Ends]

/-- The complement of a byte is its distance from 255 (R365). -/
theorem wrap8_complement (a : Byte) : wrap8 (255 - a.toNat) = ~~~ a := by
  rw [wrap8_sub, wrap8_toNat_self, ← BitVec.allOnes_sub_eq_not]; rfl

/-- Settles O52: DAA by its two cases, CPL by the complement, SCF and CCF by their definitions. -/
theorem daaCplScfCcfResults : Obligations.DaaCplScfCcfResults := by
  unfold Obligations.DaaCplScfCcfResults
  refine ⟨⟨rfl, rfl, rfl, rfl⟩, fun s => ?_, fun s => ?_, fun _ => rfl, fun _ => rfl, rfl, rfl, rfl, rfl⟩
  · refine ⟨_, execDaa_eq s, setReg_setFlags_kept s .A _ _ _, fun add => ?_, fun sub => ?_⟩
    · obtain ⟨value, flags⟩ := daa_afterAdd (s.reg .A) add
      exact ⟨value, flags ▸ setReg_setFlags_ends s .A _ _ _⟩
    · obtain ⟨value, flags⟩ := daa_afterSub (s.reg .A) sub
      exact ⟨value, flags ▸ setReg_setFlags_ends s .A _ _ _⟩
  · exact ⟨_, rfl, wrap8_complement _, setReg_setFlags_kept s .A _ _ _, setReg_setFlags_ends s .A _ _ _⟩

end Sys2Proof.Proofs
end

section
/-! The family `41_nop_ld8.md`: NOP and the 8-bit loads. -/

namespace Sys2Proof.Machine

variable {s t : State} {regs : List Reg} {stored : List Word}

theorem Kept.busRead (h : Kept s t regs stored) (a : Word) : Kept s (t.busRead a).2 regs stored :=
  h.trans ⟨by simp, fun b own _ => State.peekAfter_own t a b own, rfl, rfl, rfl, rfl, rfl, rfl, rfl⟩

theorem Kept.busWrite (h : Kept s t regs stored) {a : Word} (listed : a ∈ stored) (v : Byte) :
    Kept s (t.busWrite a v) regs stored :=
  h.trans ⟨by simp, fun b own other => State.peek_store_other t a b v own (other a listed), rfl, rfl, rfl, rfl, rfl,
    rfl, rfl⟩

end Sys2Proof.Machine

namespace Sys2Proof.Proofs

open Sys2Proof.Machine Sys2Proof.Laws

/-! ## NOP (R180) -/

/-- Settles O30: the meaning of NOP is the report of its count alone. -/
theorem nopChangesNothing : Obligations.NopChangesNothing := by
  unfold Obligations.NopChangesNothing
  exact ⟨rfl, fun _ => rfl, rfl⟩

/-! ## The loads of a register (R181 to R183) -/

theorem encode_ldRegReg (d r : Reg) :
    encode (Row.ldRegReg d r) = [BitVec.ofNat 8 (0x40 + 8 * regNumber d + regNumber r)] := by
  cases d <;> cases r <;> rfl

theorem encode_ldRegImm (d : Reg) (n : Byte) :
    encode (Row.ldRegImm d n) = [BitVec.ofNat 8 (0x06 + 8 * regNumber d), n] := by
  cases d <;> rfl

theorem encode_ldRegIndHL (d : Reg) : encode (Row.ldRegIndHL d) = [BitVec.ofNat 8 (0x46 + 8 * regNumber d)] := by
  cases d <;> rfl

theorem setReg_kept (s : State) (d : Reg) (v : Byte) (n : Nat) : Kept s ((s.setReg d v).report n) [d] [] :=
  ((Kept.refl s).setReg (List.mem_singleton_self d) v).report n

theorem setReg_ends (s : State) (d : Reg) (v : Byte) (n : Nat) :
    Ends s ((s.setReg d v).report n) s.flags s.sp s.pc [] n := by
  simp [Ends, deviceAfter]

/-- Settles O31: the destination takes the source and nothing else changes; a register takes its own value back. -/
theorem ldRegRegCopies : Obligations.LdRegRegCopies := by
  unfold Obligations.LdRegRegCopies
  refine ⟨encode_ldRegReg, fun d r s => ⟨_, exec_ldRegReg d r s, by simp, setReg_kept s d _ _, setReg_ends s d _ _, ?_⟩,
    fun _ _ => rfl⟩
  rintro rfl
  rw [State.setReg_self]; rfl

/-- LD r,n takes one operand byte, for every register (R105, R182). -/
theorem fetchInstr_ldRegImm (d : Reg) (s : State) :
    fetchInstr (BitVec.ofNat 8 (0x06 + 8 * regNumber d)) s = (Row.ldRegImm d (operandByte s), afterOperand s) := by
  have notCb : BitVec.ofNat 8 (0x06 + 8 * regNumber d) ≠ 0xCB := by cases d <;> decide
  have count : operandCount (BitVec.ofNat 8 (0x06 + 8 * regNumber d)) = 1 := by cases d <;> rfl
  rw [fetchInstr_oneOperand notCb count]
  cases d <;> rfl

/-- Settles O32: the operand byte is fetched as that of every two-byte instruction, and the register takes it. -/
theorem ldRegImmLoads : Obligations.LdRegImmLoads := by
  unfold Obligations.LdRegImmLoads
  exact ⟨encode_ldRegImm, fetchInstr_ldRegImm,
    fun d n s => ⟨_, exec_ldRegImm d n s, by simp, setReg_kept s d _ _, setReg_ends s d _ _⟩, fun _ => rfl⟩

/-- Settles O33: the byte at HL is read before the register is written. -/
theorem ldRegIndHLLoads : Obligations.LdRegIndHLLoads := by
  unfold Obligations.LdRegIndHLLoads
  refine ⟨encode_ldRegIndHL, fun d s => ⟨_, exec_ldRegIndHL d s, by simp, ?kept, ?ends⟩, fun _ => rfl⟩
  case kept => exact (((Kept.refl s).busRead s.hl).setReg (List.mem_singleton_self d) _).report _
  case ends => simp [Ends, deviceAfter]

/-! ## The stores at HL (R184, R185) -/

theorem encode_ldIndHLReg (r : Reg) : encode (Row.ldIndHLReg r) = [BitVec.ofNat 8 (0x70 + regNumber r)] := by
  cases r <;> rfl

theorem busWrite_holds {s : State} (a : Word) (v : Byte) (n : Nat) (wf : Memory.wf s.mem = true) :
    Holds s ((s.busWrite a v).report n) a v :=
  State.peek_store_self s a v wf

theorem busWrite_kept (s : State) (a : Word) (v : Byte) (n : Nat) : Kept s ((s.busWrite a v).report n) [] [a] :=
  ((Kept.refl s).busWrite (List.mem_singleton_self a) v).report n

theorem busWrite_ends (s : State) (a : Word) (v : Byte) (n : Nat) :
    Ends s ((s.busWrite a v).report n) s.flags s.sp s.pc [.write a v] n := by
  simp [Ends, deviceAfter]

/-- Settles O34: both forms are one write at HL, of the register or of the operand byte fetched before it. -/
theorem ldIndHLStores : Obligations.LdIndHLStores := by
  unfold Obligations.LdIndHLStores
  refine ⟨encode_ldIndHLReg, fun _ => rfl, fun s => ?fetch, fun r s wf => ?reg, fun n s wf => ?imm, fun _ => rfl, rfl⟩
  case fetch => exact fetchInstr_oneOperand (by decide) rfl s
  case reg => exact ⟨_, exec_ldIndHLReg r s, busWrite_holds _ _ _ wf, busWrite_kept s _ _ _, busWrite_ends s _ _ _⟩
  case imm => exact ⟨_, rfl, busWrite_holds _ _ _ wf, busWrite_kept s _ _ _, busWrite_ends s _ _ _⟩

end Sys2Proof.Proofs
end

section
/-! The family `42_ld16_ldmem.md`: the 16-bit loads and the loads and stores of A through memory. -/

namespace Sys2Proof.Machine

theorem Kept.formAfter {s t : State} {regs : List Reg} {stored : List Word} (h : Kept s t regs stored) {m : AddrForm}
    (listed : ∀ r ∈ formRegs m, r ∈ regs) : Kept s (t.formAfter m) regs stored :=
  h.trans ⟨fun q hq => State.reg_formAfter_other t m q fun e => hq (listed q e), by simp, by simp, by simp, by simp,
    by simp, by simp, by simp, by simp⟩

end Sys2Proof.Machine

namespace Sys2Proof.Proofs

open Sys2Proof.Machine Sys2Proof.Laws

/-- The fetch of an instruction with a 16-bit immediate: low byte first (R107, R108). -/
theorem fetchInstr_twoOperands {op : Byte} (notCb : op ≠ 0xCB) (count : operandCount op = 2) (s : State) :
    fetchInstr op s = (decodeMain op (operandByte s) (s.peekAfter s.pc (s.pc + 1)), afterOperands s) := by
  rw [fetchInstr_count s op fun _ => notCb, count]; rfl

/-! ## The loads of a pair (R200, R228) -/

theorem encode_ldPairImm (p : Pair) (nn : Word) :
    encode (Row.ldPairImm p nn) = [BitVec.ofNat 8 (0x01 + 16 * pairNumber p), loByte nn, hiByte nn] := by
  cases p <;> rfl

/-- LD rr,nn takes two operand bytes, for every pair (R105, R200). -/
theorem fetchInstr_ldPairImm (p : Pair) (s : State) :
    fetchInstr (BitVec.ofNat 8 (0x01 + 16 * pairNumber p)) s = (Row.ldPairImm p (operandWord s), afterOperands s) := by
  have notCb : BitVec.ofNat 8 (0x01 + 16 * pairNumber p) ≠ 0xCB := by cases p <;> decide
  have count : operandCount (BitVec.ofNat 8 (0x01 + 16 * pairNumber p)) = 2 := by cases p <;> rfl
  rw [fetchInstr_twoOperands notCb count]
  cases p <;> rfl

/-- Settles O35: both forms write the pair alone, and SP is the pair LD SP,HL writes. -/
theorem ldPairLoads : Obligations.LdPairLoads := by
  unfold Obligations.LdPairLoads
  refine ⟨encode_ldPairImm, rfl, fetchInstr_ldPairImm, fun p nn s => ?imm, fun s => ?sp, fun _ => rfl, rfl⟩
  case imm => exact ⟨_, exec_ldPairImm p nn s, by simp, setPair_kept s p _ _, setPair_ends s p _ _⟩
  case sp => exact ⟨_, rfl, setPair_kept s .SP _ _, setPair_ends s .SP _ _⟩

/-! ## The loads and stores of A (R201 to R206, R208, R220 to R227) -/

/-- What a load of A leaves: A holds the byte read at the form's address before (HL+) or (HL-) moves HL. -/
theorem exec_loadA_eq (m : AddrForm) (s : State) :
    exec (Row.loadA m) s = .next ((((s.busRead (s.formAddr m)).2.setReg .A (s.peek (s.formAddr m))).formAfter m).report
      (s.count (.loadA m.kind))) :=
  (exec_loadA m s).trans (loadA_eq s m)

/-- Settles O36: one read at the form's address, A written, then HL moved as the form says. -/
theorem loadsOfA : Obligations.LoadsOfA := by
  unfold Obligations.LoadsOfA
  refine ⟨⟨rfl, rfl, fun _ => rfl, rfl, rfl, fun _ => rfl, rfl⟩, fun s => ⟨?fetchNN, ?fetchN⟩,
    fun s _ n => ⟨rfl, rfl, rfl, rfl, rfl, highPage_eq n, highPage_eq (s.reg .C)⟩,
    fun m s => ⟨_, exec_loadA_eq m s, by simp, by simp, ?kept, ?ends⟩, rfl⟩
  case fetchNN => exact fetchInstr_twoOperands (by decide) rfl s
  case fetchN => exact fetchInstr_oneOperand (by decide) rfl s
  case kept =>
    have read : Kept s (s.busRead (s.formAddr m)).2 (.A :: formRegs m) [] := (Kept.refl s).busRead _
    exact ((read.setReg List.mem_cons_self _).formAfter fun _ => List.mem_cons_of_mem _).report _
  case ends => simp [Ends]

/-- What a store of A leaves: the write at the form's address comes before (HL+) or (HL-) moves HL. -/
theorem exec_storeA_eq (m : AddrForm) (s : State) :
    exec (Row.storeA m) s = .next (((s.busWrite (s.formAddr m) (s.reg .A)).formAfter m).report
      (s.count (.storeA m.kind))) :=
  exec_storeA m s

/-- Settles O37: one write of A at the form's address, then HL moved as the form says. -/
theorem storesOfA : Obligations.StoresOfA := by
  unfold Obligations.StoresOfA
  refine ⟨⟨rfl, rfl, fun _ => rfl, rfl, rfl, fun _ => rfl, rfl⟩, fun s => ⟨?fetchNN, ?fetchN⟩,
    fun m s wf => ⟨_, exec_storeA_eq m s, ?holds, by simp, ?kept, ?ends⟩,
    fun s _ n => ⟨rfl, rfl, rfl, rfl, rfl, highPage_eq n, highPage_eq (s.reg .C)⟩, rfl⟩
  case fetchNN => exact fetchInstr_twoOperands (by decide) rfl s
  case fetchN => exact fetchInstr_oneOperand (by decide) rfl s
  case holds => exact fun own => by simpa using State.peek_store_self s (s.formAddr m) (s.reg .A) wf own
  case kept => exact (((Kept.refl s).busWrite (List.mem_singleton_self _) _).formAfter fun _ => id).report _
  case ends => simp [Ends]

/-! ## LD (nn),SP (R207) -/

/-- Settles O38: two writes, SP's low byte at nn and then its high byte at the address after it. -/
theorem ldIndNNSPStoresBothBytes : Obligations.LdIndNNSPStoresBothBytes := by
  unfold Obligations.LdIndNNSPStoresBothBytes
  refine ⟨fun _ => rfl, fun s => ?fetch, fun nn s wf => ⟨_, rfl, ?holds, ?kept, ?ends⟩, rfl⟩
  case fetch => exact fetchInstr_twoOperands (by decide) rfl s
  case holds => exact holdsBoth_store_store s _ nn (nn + 1) _ _ wf fun _ _ => by simp
  case kept => exact (((Kept.refl s).busWrite (by simp) _).busWrite (by simp) _).report _
  case ends => simp [Ends]

end Sys2Proof.Proofs
end

section
/-! The family `44_arith8.md`: the 8-bit accumulator arithmetic and logic. -/

namespace Sys2Proof.Proofs

open Sys2Proof.Machine Sys2Proof.Laws

/-! ## The second operand a register or the byte at HL (R260 to R282) -/

/-- The grid's row of the operation and the column of its operand (R106). -/
theorem encode_alu (op : AluOp) (x : Operand) :
    encode (Row.alu op x) = [BitVec.ofNat 8 (0x80 + 8 * aluNumber op + operandNumber x)] := by
  cases op <;> rcases x with (_ | _) | _ <;> rfl

/-- The state an accumulator operation leaves: the operand read, A and all four flags set to `result`. -/
def setAccumulator (s : State) (x : Operand) (result : Byte × Flags) (n : Nat) : State :=
  (((s.readOperand x).2.setReg .A result.1).setFlags result.2).report n

theorem exec_alu_eq (op : AluOp) (x : Operand) (s : State) :
    exec (Row.alu op x) s = .next (setAccumulator s x (aluResult op (s.reg .A) (operandValue s x) s.flags)
      (s.count (.alu op x))) :=
  (exec_alu op x s).trans (alu_eq s op x)

theorem setAccumulator_kept (s : State) (x : Operand) (result : Byte × Flags) (n : Nat) :
    Kept s (setAccumulator s x result n) [.A] [] :=
  ((((Kept.refl s).readOperand x).setReg (List.mem_singleton_self Reg.A) result.1).setFlags result.2).report n

theorem setAccumulator_ends (s : State) (x : Operand) (result : Byte × Flags) (n : Nat) :
    Ends s (setAccumulator s x result n) result.2 s.sp s.pc (operandReads s x) n := by
  simp [Ends, setAccumulator]

/-- A and the flags take the value of the 8-bit function, and the operand's read is the only access; the function of CP
gives A itself. -/
theorem alu_completes (op : AluOp) (x : Operand) (s : State) :
    ∃ t, exec (Row.alu op x) s = .next t ∧
      t.reg .A = (aluResult op (s.reg .A) (operandValue s x) s.flags).1 ∧ Kept s t [.A] [] ∧
      Ends s t (aluResult op (s.reg .A) (operandValue s x) s.flags).2 s.sp s.pc (operandReads s x)
        (s.count (.alu op x)) :=
  ⟨_, exec_alu_eq op x s, by simp [setAccumulator], setAccumulator_kept s x _ _, setAccumulator_ends s x _ _⟩

/-- Settles O41: the operand is a register, which takes no access. -/
theorem aluRegResults : Obligations.AluRegResults := by
  unfold Obligations.AluRegResults
  exact ⟨fun op r => encode_alu op (.reg r), fun op r s => alu_completes op (.reg r) s, fun _ _ => rfl⟩

/-- Settles O42: the operand is the byte at HL, which takes one read. -/
theorem aluIndHLResults : Obligations.AluIndHLResults := by
  unfold Obligations.AluIndHLResults
  refine ⟨fun op => ?encode, fun op s => alu_completes op .indHL s, fun _ => rfl⟩
  case encode => rw [encode_alu, operandNumber, Nat.add_right_comm]

/-! ## The second operand an immediate (R262 to R283) -/

theorem encode_aluImm (op : AluOp) (n : Byte) :
    encode (Row.aluImm op n) = [BitVec.ofNat 8 (0xC6 + 8 * aluNumber op), n] := by
  cases op <;> rfl

/-- The immediate is one operand byte, for every operation (R105). -/
theorem fetchInstr_aluImm (op : AluOp) (s : State) :
    fetchInstr (BitVec.ofNat 8 (0xC6 + 8 * aluNumber op)) s = (Row.aluImm op (operandByte s), afterOperand s) := by
  have notCb : BitVec.ofNat 8 (0xC6 + 8 * aluNumber op) ≠ 0xCB := by cases op <;> decide
  have count : operandCount (BitVec.ofNat 8 (0xC6 + 8 * aluNumber op)) = 1 := by cases op <;> rfl
  rw [fetchInstr_oneOperand notCb count]
  cases op <;> rfl

theorem exec_aluImm_eq (op : AluOp) (n : Byte) (s : State) :
    exec (Row.aluImm op n) s = .next (((s.setReg .A (aluResult op (s.reg .A) n s.flags).1).setFlags
      (aluResult op (s.reg .A) n s.flags).2).report (s.count (.aluImm op))) :=
  (exec_aluImm op n s).trans (aluImm_eq s op n)

/-- Settles O43: the operand byte is fetched before the instruction runs, which makes no access of its own. -/
theorem aluImmResults : Obligations.AluImmResults := by
  unfold Obligations.AluImmResults
  exact ⟨encode_aluImm, fetchInstr_aluImm,
    fun op n s => ⟨_, exec_aluImm_eq op n s, State.reg_setReg_same s .A _, setReg_setFlags_kept s .A _ _ _,
      setReg_setFlags_ends s .A _ _ _⟩,
    fun _ => rfl⟩

end Sys2Proof.Proofs
end

section
/-! The family `46_stack.md`: PUSH and POP. -/

namespace Sys2Proof.Machine

variable {s t : State} {regs : List Reg} {stored : List Word}

theorem Kept.push16 (h : Kept s t regs stored) (high : t.sp - 1 ∈ stored) (low : t.sp - 2 ∈ stored) (v : Word) :
    Kept s (t.push16 v) regs stored :=
  h.trans ⟨by simp, fun a own other => State.peek_push16_other t v a own (other _ high) (other _ low), by simp,
    by simp, by simp, by simp, by simp, by simp, by simp⟩

theorem Kept.pop16 (h : Kept s t regs stored) : Kept s t.pop16.2 regs stored :=
  h.trans ⟨by simp, fun a own _ => State.peek_pop16_own t a own, rfl, rfl, rfl, rfl, rfl, rfl, rfl⟩

theorem Kept.setStackPair (h : Kept s t regs stored) {q : StackPair} (listed : ∀ r ∈ stackPairRegs q, r ∈ regs)
    (v : Word) : Kept s (t.setStackPair q v) regs stored :=
  h.trans ⟨fun r hr => State.reg_setStackPair_other t q v r fun e => hr (listed r e), by simp, by simp, by simp,
    by simp, by simp, by simp, by simp, by simp⟩

/-! ## The pairs of PUSH and POP (R28) -/

theorem State.stackPair_AF_toNat (s : State) :
    (s.stackPair .AF).toNat = (s.reg .A).toNat * 256 +
      (bit s.flags.z * 128 + bit s.flags.n * 64 + bit s.flags.h * 32 + bit s.flags.c * 16) :=
  (word_toNat _ _).trans (congrArg _ (Flags.toByte_toNat s.flags))

/-- Two states with the same registers and flags have the same pairs. -/
theorem State.stackPair_congr {s t : State} (regs : t.regs = s.regs) (flags : t.flags = s.flags) (q : StackPair) :
    t.stackPair q = s.stackPair q := by
  cases q <;> simp [State.stackPair, State.pair, State.hl, regs, flags]

theorem State.stackPair_report (s : State) (n : Nat) (q : StackPair) : (s.report n).stackPair q = s.stackPair q :=
  State.stackPair_congr rfl rfl q

/-- POP AF drops the low nibble of the flag byte; the other pairs take the whole word. -/
theorem State.stackPair_setStackPair (s : State) (q : StackPair) (v : Word) :
    (s.setStackPair q v).stackPair q = if q = .AF then v &&& 0xFFF0 else v := by
  cases q
  case AF => exact Proofs.stackPair_setStackPair_AF s v
  all_goals exact word_halves v

/-- A pair takes its own value back: the four flags are all the flag byte holds. -/
theorem State.setStackPair_self (s : State) (q : StackPair) : s.setStackPair q (s.stackPair q) = s := by
  cases q
  case AF => simp [State.setStackPair, State.stackPair, Flags.ofByte_toByte]
  all_goals simp [State.setStackPair, State.stackPair, State.setPair, State.pair, State.hl]

theorem State.setStackPair_flags (s : State) (q : StackPair) (v : Word) :
    (s.setStackPair q v).flags = if q = .AF then Flags.ofByte (loByte v) else s.flags := by
  cases q <;> rfl

/-! ## The word on the stack (R310, R311) -/

theorem State.holdsBoth_push16 (s : State) (v : Word) (wf : Memory.wf s.mem = true) :
    HoldsBoth s (s.push16 v) (s.sp - 1) (hiByte v) (s.sp - 2) (loByte v) :=
  holdsBoth_store_store s _ _ _ _ _ wf fun a _ => State.peek_push16 s v a

/-- Outside the external regions the first read of a word leaves the second byte as it is. -/
theorem wordAt_own (s : State) {a b : Word} (next : a + 1 = b) (own : external s.params.regions b = false) :
    wordAt s a = word (s.peek b) (s.peek a) := by
  rw [wordAt, next, State.peekAfter_own s a b own]

/-- A pushed word is popped again where its two bytes fall in distinct cells that keep writes. -/
theorem State.wordAt_push16 {s : State} (v : Word) (wf : Memory.wf s.mem = true)
    (keptHigh : writable s.params.regions (s.sp - 1) = true) (keptLow : writable s.params.regions (s.sp - 2) = true)
    (ownHigh : external s.params.regions (s.sp - 1) = false) (ownLow : external s.params.regions (s.sp - 2) = false)
    (distinct : cellOf s.params.regions (s.sp - 1) ≠ cellOf s.params.regions (s.sp - 2)) :
    wordAt (s.push16 v) (s.sp - 2) = v := by
  obtain ⟨high, low⟩ := s.holdsBoth_push16 v wf
  have next : s.sp - 2 + 1 = s.sp - 1 := by bv_omega
  rw [wordAt_own _ next (by simpa using ownHigh), high distinct ownHigh, low ownLow, if_pos keptHigh, if_pos keptLow,
    word_halves]

end Sys2Proof.Machine

namespace Sys2Proof.Proofs

open Sys2Proof.Machine Sys2Proof.Laws

/-! ## PUSH (R310, R312, R314) -/

theorem encode_push (q : StackPair) : encode (Row.push q) = [BitVec.ofNat 8 (0xC5 + 16 * stackPairNumber q)] := by
  cases q <;> rfl

theorem exec_push_eq (q : StackPair) (s : State) :
    exec (Row.push q) s = .next ((s.push16 (s.stackPair q)).report (s.count (.push q))) :=
  exec_push q s

/-- Settles O46: the push is two writes below SP, and the flag byte of AF is the sum of its four weights. -/
theorem pushWritesHighThenLow : Obligations.PushWritesHighThenLow := by
  unfold Obligations.PushWritesHighThenLow
  refine ⟨encode_push, fun s => ⟨rfl, rfl, rfl, s.stackPair_AF_toNat⟩,
    fun q s wf => ⟨_, exec_push_eq q s, s.holdsBoth_push16 _ wf, ?kept, ?ends⟩, fun _ => rfl⟩
  case kept => exact ((Kept.refl s).push16 (by simp) (by simp) _).report _
  case ends => simp [Ends]

/-! ## POP (R311, R313, R315) -/

theorem encode_pop (q : StackPair) : encode (Row.pop q) = [BitVec.ofNat 8 (0xC1 + 16 * stackPairNumber q)] := by
  cases q <;> rfl

theorem exec_pop_eq (q : StackPair) (s : State) :
    exec (Row.pop q) s = .next ((s.pop16.2.setStackPair q (wordAt s s.sp)).report (s.count (.pop q))) :=
  (exec_pop q s).trans (pop_eq s q)

/-- Settles O47: the word read goes to the pair, and for AF its low byte to the flags. -/
theorem popReadsLowThenHigh : Obligations.PopReadsLowThenHigh := by
  unfold Obligations.PopReadsLowThenHigh
  refine ⟨encode_pop,
    fun q s => ⟨_, exec_pop_eq q s, ?accumulator, fun notAF => ?pair, ?kept, ?ends⟩, fun _ => rfl⟩
  case accumulator =>
    rintro rfl
    exact hiByte_wordAt s s.sp
  case pair => rw [State.stackPair_report, State.stackPair_setStackPair, if_neg notAF]; rfl
  case kept => exact ((Kept.refl s).pop16.setStackPair (fun _ h => h) _).report _
  case ends => simp [Ends, State.setStackPair_flags, Flags.ofByte, wordReads]

/-! ## PUSH and then POP (R310 to R315) -/

theorem exec_pop_of_wordAt {t : State} {v : Word} (top : wordAt t t.sp = v) (p : StackPair) :
    exec (Row.pop p) t = .next ((t.pop16.2.setStackPair p v).report (t.count (.pop p))) := by
  rw [exec_pop_eq, top]

/-- POP changes no register and no flag where the word on the stack is the pair's own value. -/
theorem exec_pop_own_value {t : State} {q : StackPair} (top : wordAt t t.sp = t.stackPair q) :
    exec (Row.pop q) t = .next (t.pop16.2.report (t.count (.pop q))) := by
  have same : t.pop16.2.stackPair q = t.stackPair q := State.stackPair_congr rfl rfl q
  rw [exec_pop_of_wordAt top, ← same, State.setStackPair_self]

/-- Settles O26: PUSH leaves registers and flags, so the pushed word is still the value of the pair it came from, and
POP of that pair changes neither; another pair takes a copy. -/
theorem pushPopRoundTrip : Obligations.PushPopRoundTrip := by
  unfold Obligations.PushPopRoundTrip
  intro s q p wf keptHigh keptLow ownHigh ownLow distinct
  have stacked : wordAt (s.push16 (s.stackPair q)) (s.sp - 2) = s.stackPair q :=
    State.wordAt_push16 _ wf keptHigh keptLow ownHigh ownLow distinct
  obtain ⟨t, pushed, sp, regs, flags, top⟩ : ∃ t, exec (Row.push q) s = .next t ∧ t.sp = s.sp - 2 ∧
      t.regs = s.regs ∧ t.flags = s.flags ∧ wordAt t (s.sp - 2) = s.stackPair q :=
    ⟨_, exec_push_eq q s, by simp, by simp, by simp, stacked⟩
  have own : t.stackPair q = s.stackPair q := State.stackPair_congr regs flags q
  rw [← sp] at top
  refine ⟨t, _, _, pushed, sp, exec_pop_own_value (top.trans own.symm), ?sp, regs, flags, exec_pop_of_wordAt top p,
    ?copied⟩
  case sp => simp [sp]
  case copied => rw [State.stackPair_report, State.stackPair_setStackPair]

end Sys2Proof.Proofs
end

section
/-! The family `47_supp_control.md`: the jumps, the calls, the returns, and the writes of IME. -/

namespace Sys2Proof.Machine

theorem Kept.jump {s t : State} {regs : List Reg} {stored : List Word} (h : Kept s t regs stored) (target : Word) :
    Kept s (t.jump target) regs stored :=
  h.trans (Kept.refl t)

/-- Besides the word it gives, a pop moves SP and makes two reads (R311). -/
theorem State.pop16_2_eq (s : State) : s.pop16.2 =
    { s with sp := s.sp + 2, device := deviceAfter s.params s.device (wordReads s s.sp),
             bus := s.bus ++ wordReads s s.sp } := by
  rw [← State.pop16_2_bus]; rfl

/-- The state CALL and RST leave: pc pushed, then the jump (R336, R341). -/
def State.callTo (s : State) (target : Word) (n : Nat) : State := ((s.push16 s.pc).jump target).report n

theorem State.callTo_holdsBoth (s : State) (target : Word) (n : Nat) (wf : Memory.wf s.mem = true) :
    HoldsBoth s (s.callTo target n) (s.sp - 1) (hiByte s.pc) (s.sp - 2) (loByte s.pc) :=
  s.holdsBoth_push16 s.pc wf

theorem State.callTo_kept (s : State) (target : Word) (n : Nat) :
    Kept s (s.callTo target n) [] [s.sp - 1, s.sp - 2] :=
  (((Kept.refl s).push16 (by simp) (by simp) s.pc).jump target).report n

theorem State.callTo_ends (s : State) (target : Word) (n : Nat) :
    Ends s (s.callTo target n) s.flags (s.sp - 2) target
      [.write (s.sp - 1) (hiByte s.pc), .write (s.sp - 2) (loByte s.pc)] n := by
  simp [Ends, State.callTo]

end Sys2Proof.Machine

namespace Sys2Proof.Proofs

open Sys2Proof.Machine Sys2Proof.Laws

/-! ## The jumps (R330 to R335) -/

theorem encode_jpCond (cc : Cond) (nn : Word) :
    encode (Row.jpCond cc nn) = [BitVec.ofNat 8 (0xC2 + 8 * condNumber cc), loByte nn, hiByte nn] := by
  cases cc <;> rfl

theorem encode_jrCond (cc : Cond) (e : Byte) :
    encode (Row.jrCond cc e) = [BitVec.ofNat 8 (0x20 + 8 * condNumber cc), e] := by
  cases cc <;> rfl

/-- JP cc,nn takes two operand bytes, for every condition (R332). -/
theorem fetchInstr_jpCond (cc : Cond) (s : State) :
    fetchInstr (BitVec.ofNat 8 (0xC2 + 8 * condNumber cc)) s = (Row.jpCond cc (operandWord s), afterOperands s) := by
  cases cc <;> exact fetchInstr_twoOperands (by decide) rfl s

/-- JR cc,e takes one operand byte, for every condition (R335). -/
theorem fetchInstr_jrCond (cc : Cond) (s : State) :
    fetchInstr (BitVec.ofNat 8 (0x20 + 8 * condNumber cc)) s = (Row.jrCond cc (operandByte s), afterOperand s) := by
  cases cc <;> exact fetchInstr_oneOperand (by decide) rfl s

theorem exec_jpCond_eq (cc : Cond) (nn : Word) (s : State) :
    exec (Row.jpCond cc nn) s = .next (if s.flags.holds cc = true
      then (s.jump nn).report (s.count (.jpCond cc true))
      else s.report (s.count (.jpCond cc false))) :=
  (exec_jpCond cc nn s).trans (jpCond_eq s cc nn)

/-- The target of a relative jump is pc plus the sign-extended displacement (R334). -/
theorem exec_jrE_eq (e : Byte) (s : State) :
    exec (.jrE e) s = .next ((s.jump (s.pc + e.signExtend 16)).report (s.count .jr)) := by
  rw [← State.relTarget_eq]; rfl

theorem exec_jrCond_eq (cc : Cond) (e : Byte) (s : State) :
    exec (Row.jrCond cc e) s = .next (if s.flags.holds cc = true
      then (s.jump (s.pc + e.signExtend 16)).report (s.count (.jrCond cc true))
      else s.report (s.count (.jrCond cc false))) := by
  rw [exec_jrCond, jrCond_eq, State.relTarget_eq]

/-- Settles O48: a jump writes pc alone, and the operand bytes are fetched whether or not the condition holds. -/
theorem jumpsSetPc : Obligations.JumpsSetPc := by
  unfold Obligations.JumpsSetPc
  refine ⟨⟨fun _ => rfl, encode_jpCond, rfl, fun _ => rfl, encode_jrCond⟩,
    fun s => ⟨?fetchJp, fun cc => fetchInstr_jpCond cc s, ?fetchJr, fun cc => fetchInstr_jrCond cc s⟩,
    fun _ => ⟨rfl, rfl, rfl, rfl⟩, fun _ _ => rfl, exec_jpCond_eq, fun _ => rfl, exec_jrE_eq, exec_jrCond_eq,
    rfl, rfl, rfl, fun _ => ⟨rfl, rfl, rfl, rfl⟩⟩
  case fetchJp => exact fetchInstr_twoOperands (by decide) rfl s
  case fetchJr => exact fetchInstr_oneOperand (by decide) rfl s

/-! ## The calls (R336, R337, R341) -/

theorem encode_callCond (cc : Cond) (nn : Word) :
    encode (Row.callCond cc nn) = [BitVec.ofNat 8 (0xC4 + 8 * condNumber cc), loByte nn, hiByte nn] := by
  cases cc <;> rfl

theorem encode_rst (r : RstTarget) : encode (Row.rst r) = [BitVec.ofNat 8 (0xC7 + (rstAddr r).toNat)] := by
  cases r <;> rfl

/-- CALL cc,nn takes two operand bytes, for every condition (R337). -/
theorem fetchInstr_callCond (cc : Cond) (s : State) :
    fetchInstr (BitVec.ofNat 8 (0xC4 + 8 * condNumber cc)) s =
      (Row.callCond cc (operandWord s), afterOperands s) := by
  cases cc <;> exact fetchInstr_twoOperands (by decide) rfl s

theorem exec_callNn_eq (nn : Word) (s : State) : exec (.callNn nn) s = .next (s.callTo nn (s.count .call)) :=
  rfl

theorem exec_rst_eq (r : RstTarget) (s : State) :
    exec (Row.rst r) s = .next (s.callTo (rstAddr r) (s.count (.rst r))) :=
  exec_rst r s

theorem exec_callCond_taken {cc : Cond} {s : State} (holds : s.flags.holds cc = true) (nn : Word) :
    exec (Row.callCond cc nn) s = .next (s.callTo nn (s.count (.callCond cc true))) := by
  rw [exec_callCond, callCond_eq, if_pos holds]; rfl

theorem exec_callCond_notTaken {cc : Cond} {s : State} (fails : s.flags.holds cc = false) (nn : Word) :
    exec (Row.callCond cc nn) s = .next (s.report (s.count (.callCond cc false))) := by
  rw [exec_callCond, callCond_eq, if_neg (Bool.eq_false_iff.mp fails)]

/-- Settles O49: CALL, the CALL cc whose condition holds and RST leave one state, with their own target and count. -/
theorem callsPushReturnAddress : Obligations.CallsPushReturnAddress := by
  unfold Obligations.CallsPushReturnAddress
  refine ⟨⟨fun _ => rfl, encode_callCond, encode_rst, rfl⟩,
    fun s => ⟨?fetchCall, fun cc => fetchInstr_callCond cc s⟩, fun s wf => ?calls, rfl, fun _ => rfl, fun _ => ⟨rfl, rfl⟩⟩
  case fetchCall => exact fetchInstr_twoOperands (by decide) rfl s
  case calls =>
    have called (target : Word) (n : Nat) :=
      And.intro (s.callTo_holdsBoth target n wf) (And.intro (s.callTo_kept target n) (s.callTo_ends target n))
    exact ⟨fun nn => ⟨_, exec_callNn_eq nn s, called _ _⟩,
      fun _ nn holds => ⟨_, exec_callCond_taken holds nn, called _ _⟩,
      fun _ nn fails => exec_callCond_notTaken fails nn,
      fun r => ⟨_, exec_rst_eq r s, called _ _⟩⟩

/-! ## The returns (R338, R339) -/

theorem encode_retCond (cc : Cond) : encode (Row.retCond cc) = [BitVec.ofNat 8 (0xC0 + 8 * condNumber cc)] := by
  cases cc <;> rfl

theorem exec_ret_eq (s : State) :
    exec .ret s = .next ((s.pop16.2.jump (wordAt s s.sp)).report (s.count .ret)) :=
  execRet_eq s

theorem exec_retCond_eq (cc : Cond) (s : State) :
    exec (Row.retCond cc) s = .next (if s.flags.holds cc = true
      then (s.pop16.2.jump (wordAt s s.sp)).report (s.count (.retCond cc true))
      else s.report (s.count (.retCond cc false))) :=
  (exec_retCond cc s).trans (retCond_eq s cc)

/-- Settles O50: a return is the pop of a word and the jump to it. -/
theorem returnsPopPc : Obligations.ReturnsPopPc := by
  unfold Obligations.ReturnsPopPc
  refine ⟨rfl, encode_retCond, fun s => ⟨?ret, fun cc => ?retCond⟩, rfl, fun _ => ⟨rfl, rfl⟩⟩
  case ret => rw [exec_ret_eq, State.pop16_2_eq]; rfl
  case retCond => rw [exec_retCond_eq, State.pop16_2_eq]; rfl

/-! ## The writes of IME (R340, R371, R372) -/

theorem exec_reti_eq (s : State) :
    exec .reti s = .next ({ s.pop16.2.jump (wordAt s s.sp) with ime := true, eiDelay := false }.report
      (s.count .reti)) :=
  rfl

/-- Settles O55: DI and EI write their bits alone, and RETI is a return that also sets IME. -/
theorem diEiRetiWriteIme : Obligations.DiEiRetiWriteIme := by
  unfold Obligations.DiEiRetiWriteIme
  refine ⟨⟨rfl, rfl, rfl⟩, fun _ => rfl, fun _ => rfl, fun s => ?reti, rfl, rfl, rfl⟩
  case reti => rw [exec_reti_eq, State.pop16_2_eq]; rfl

end Sys2Proof.Proofs
end

section
/-! The family `48_supp_misc.md`: the rotates of A, HALT, STOP, UNDEFINED, PREFIX CB, and the fetch under the HALT
bug. -/

namespace Sys2Proof.Proofs

open Sys2Proof.Machine Sys2Proof.Laws

/-! ## The rotates of A (R360 to R363) -/

/-- An accumulator rotate is the CB-table rotate of A with Z forced to 0 (R155). -/
theorem exec_accRot_eq (op : RotOp) (s : State) :
    exec (Row.accRot op) s = .next (((s.setReg .A (shiftValue (.rot op) (s.reg .A) s.flags.c).1).setFlags
      { z := false, n := false, h := false, c := (shiftValue (.rot op) (s.reg .A) s.flags.c).2 }).report
      (s.count (.accRot op))) :=
  (exec_accRot op s).trans (accRot_eq s op)

/-- Settles O51: A and C take the value of the rotate, row by row of the table of R155. -/
theorem accumulatorRotatesClearZero : Obligations.AccumulatorRotatesClearZero := by
  unfold Obligations.AccumulatorRotatesClearZero
  refine ⟨rfl, fun op s => ?_, fun _ => rfl⟩
  intro a result
  have rotated : shiftValue (.rot op) a s.flags.c = result := by
    cases op
    case rlc => exact shiftValue_rlc a _
    case rrc => exact shiftValue_rrc a _
    case rl => exact shiftValue_rl a _
    case rr => exact shiftValue_rr a _
  rw [← rotated]
  exact ⟨_, exec_accRot_eq op s, State.reg_setReg_same s .A _, setReg_setFlags_kept s .A _ _ _,
    setReg_setFlags_ends s .A _ _ _⟩

/-! ## HALT (R368, R369) -/

theorem exec_halt_noIrq {s : State} (irq : s.params.irq = .none) :
    exec .halt s = .next ({ s with halted := true }.report (s.count .halt)) := by
  change execHalt s = _
  rw [execHalt, irq]

/-- Under IRQ = canonical HALT reads IE and IF and then tells the HALT-bug situation by three conditions. -/
theorem exec_halt_canonical {s : State} (irq : s.params.irq = .canonical) :
    let sampled : State :=
      { s with bus := s.bus ++ [.read 0xFFFF (s.peek 0xFFFF), .read 0xFF0F (s.peek 0xFF0F)] }
    exec .halt s =
      if s.ime = false ∧ s.eiDelay = false ∧ pendingRequests s ≠ 0 then
        if s.params.haltBug = .refuse then .refused (.haltBugNotModelled 0x76)
        else .next ({ sampled with haltBug := true }.report (s.count .halt))
      else .next ({ sampled with halted := true }.report (s.count .halt)) := by
  change execHalt s = _
  rw [execHalt, irq, State.samplePending_eq s irq]
  cases s.params.haltBug <;> rfl

/-- Settles O53: one of the conditions failing is the halt; with all three HALT_BUG decides. -/
theorem haltHaltsOrSetsBug : Obligations.HaltHaltsOrSetsBug := by
  unfold Obligations.HaltHaltsOrSetsBug
  refine ⟨rfl, fun _ => exec_halt_noIrq, fun s irq => ⟨fun noBug => ?halts, fun ime eiDelay pending policy => ?bug,
    fun ime eiDelay pending policy => ?refused⟩, rfl⟩
  case halts =>
    have fails : ¬(s.ime = false ∧ s.eiDelay = false ∧ pendingRequests s ≠ 0) :=
      fun ⟨ime, eiDelay, pending⟩ => pending (by simpa [ime, eiDelay] using noBug)
    rw [exec_halt_canonical irq, if_neg fails]
    rfl
  case bug => rw [exec_halt_canonical irq, if_pos ⟨ime, eiDelay, pending⟩, policy]; rfl
  case refused => rw [exec_halt_canonical irq, if_pos ⟨ime, eiDelay, pending⟩, if_pos policy]

/-! ## STOP (R370) -/

theorem exec_stop_stopped (pad : Byte) {s : State} (policy : s.params.stop = .stopped) :
    exec (.stop pad) s = .next ({ s with stopped := true }.report (s.count .stop)) := by
  change execStop pad s = _
  rw [execStop, policy]

theorem exec_stop_refuse (pad : Byte) {s : State} (policy : s.params.stop = .refuse) :
    exec (.stop pad) s = .refused (.stopNotModelled 0x10) := by
  change execStop pad s = _
  rw [execStop, policy]

/-- A stopped core's step is idle (R443 point 1). -/
theorem step_stopped {s : State} (full : s.params.profile = .full) (stopped : s.stopped = true) :
    step s = .next (s.beginStep.report (s.count .idleStopped)) := by
  rw [step, prepare_stopped s full stopped]
  rfl

/-- Settles O54: STOP_MODE decides, whatever the pad byte. -/
theorem stopStopsTheCore : Obligations.StopStopsTheCore := by
  unfold Obligations.StopStopsTheCore
  exact ⟨fun _ => rfl, fun s => fetchInstr_oneOperand (by decide) rfl s, fun pad _ => exec_stop_stopped pad,
    fun pad _ => exec_stop_refuse pad, fun _ => step_stopped, rfl⟩

/-! ## UNDEFINED (R374, R422) -/

/-- The undefined bytes are of tier T1, so no profile gates them (R103, R113). -/
theorem isTierT2_of_mem {op : Byte} (listed : op ∈ undefinedOpcodes) : isTierT2 op = false := by
  revert op; decide

/-- The handler of an undefined byte fetches no operand and faults with the state it was given, in both profiles. -/
theorem execOpcode_of_mem {op : Byte} (listed : op ∈ undefinedOpcodes) (s : State) :
    execOpcode op s = .fault (.undefinedOpcode op s.fetchedAt s) := by
  have notCb : op ≠ 0xCB := by rintro rfl; exact absurd listed (by decide)
  have undef := decodeMain_of_mem listed 0 0
  have fetched : fetchInstr op s = (.undefined op, s) := by
    rw [fetchInstr_count s op fun _ => notCb, (decodeMain_undefined undef).2]
    exact Prod.ext undef rfl
  rw [execOpcode_passed fun _ => isTierT2_of_mem listed, fetched]
  rfl

/-- Settles O56: the fault carries the state after the opcode fetch. -/
theorem undefinedOpcodeFaults : Obligations.UndefinedOpcodeFaults := by
  unfold Obligations.UndefinedOpcodeFaults
  refine ⟨fun _ _ => rfl, fun op listed => ⟨rfl, fun s atPc runs noBug => ?_⟩⟩
  subst atPc
  obtain ⟨-, fault, -⟩ := step_of_execOpcode runs noBug
  exact ⟨afterOpcode s, fault _ (execOpcode_of_mem listed (afterOpcode s)), rfl, rfl⟩

/-! ## PREFIX CB (R373, R390) -/

/-- Every operation of the sub-table completes with pc and SP as they were. -/
theorem exec_decodeCb_keeps_pc_sp (sub : Byte) (s : State) :
    ∃ t, exec (decodeCb sub) s = .next t ∧ t.pc = s.pc ∧ t.sp = s.sp := by
  obtain ⟨op, x, row⟩ | ⟨b, x, row⟩ | ⟨b, x, row⟩ | ⟨b, x, row⟩ := decodeCb_cases sub <;> rw [row]
  · exact ⟨_, (exec_shift op x s).trans (shift_eq s op x), by simp, by simp⟩
  · exact ⟨_, (exec_bit b x s).trans (bitTest_eq s b x), by simp, by simp⟩
  · exact ⟨_, (exec_res b x s).trans (bitRes_eq s b x), by simp, by simp⟩
  · exact ⟨_, (exec_set b x s).trans (bitSet_eq s b x), by simp, by simp⟩

/-- Under CB_EXT = refuse the step that reads 0xCB is refused where the gate lets it through, whether or not the
opcode fetch advances pc. -/
theorem step_prefixCb_refuse {s : State} (policy : s.params.cbExt = .refuse) (full : s.params.profile = .full)
    (runs : RunsNext s) (atPc : s.peek s.pc = 0xCB) : step s = .refused (.cbExtensionExternal 0xCB) := by
  have opcode : s.checked.fetchOpcode.1 = 0xCB := atPc
  have gate : s.checked.fetchOpcode.2.params.profile = .core → isTierT2 0xCB = false := fun core =>
    nomatch full.symm.trans core
  rw [step_runs s runs, runInstruction, opcode, execOpcode_passed gate,
    fetchInstr_refuse s.checked.fetchOpcode.2 policy, exec_prefixCb_refuse s.checked.fetchOpcode.2 policy]
  rfl

theorem operandOf_operandNumber (x : Operand) : operandOf (operandNumber x) = x ∧ operandNumber x < 8 := by
  rcases x with (_ | _) | _ <;> exact ⟨rfl, by decide⟩

theorem shiftOf_shiftNumber (op : ShiftOp) : shiftOf (shiftNumber op) = op ∧ shiftNumber op < 8 := by
  rcases op with (_ | _) | _ <;> exact ⟨rfl, by decide⟩

theorem bitNoOf_bitIndex (b : BitNo) : bitNoOf (bitIndex b) = b ∧ bitIndex b < 8 := by
  cases b <;> exact ⟨rfl, by decide⟩

/-- The sub-opcode `64 * q + 8 * y + z` has these fields, and `z` names its operand (R390). -/
theorem fields_ofNat {n q y : Nat} {x : Operand} (byte : n = 64 * q + 8 * y + operandNumber x) (hq : q < 4)
    (hy : y < 8) :
    fieldX (BitVec.ofNat 8 n) = q ∧ fieldY (BitVec.ofNat 8 n) = y ∧ operandOf (fieldZ (BitVec.ofNat 8 n)) = x := by
  obtain ⟨operand, hz⟩ := operandOf_operandNumber x
  have z : fieldZ (BitVec.ofNat 8 n) = operandNumber x := by
    rw [fieldZ, BitVec.toNat_ofNat]; omega
  rw [z, fieldX, fieldY, BitVec.toNat_ofNat]
  exact ⟨by omega, by omega, operand⟩

theorem decodeCb_shift (op : ShiftOp) (x : Operand) :
    decodeCb (BitVec.ofNat 8 (8 * shiftNumber op + operandNumber x)) = Row.shift op x := by
  obtain ⟨named, small⟩ := shiftOf_shiftNumber op
  obtain ⟨q, y, z⟩ := fields_ofNat (n := 8 * shiftNumber op + operandNumber x) (q := 0) (x := x)
    (by omega) (by decide) small
  simp only [decodeCb, q, y, z, named]

theorem decodeCb_bit (b : BitNo) (x : Operand) :
    decodeCb (BitVec.ofNat 8 (64 + 8 * bitIndex b + operandNumber x)) = Row.bit b x := by
  obtain ⟨named, small⟩ := bitNoOf_bitIndex b
  obtain ⟨q, y, z⟩ := fields_ofNat (n := 64 + 8 * bitIndex b + operandNumber x) (q := 1) rfl (by decide) small
  simp only [decodeCb, q, y, z, named]

theorem decodeCb_res (b : BitNo) (x : Operand) :
    decodeCb (BitVec.ofNat 8 (128 + 8 * bitIndex b + operandNumber x)) = Row.res b x := by
  obtain ⟨named, small⟩ := bitNoOf_bitIndex b
  obtain ⟨q, y, z⟩ := fields_ofNat (n := 128 + 8 * bitIndex b + operandNumber x) (q := 2) rfl (by decide) small
  simp only [decodeCb, q, y, z, named]

theorem decodeCb_set (b : BitNo) (x : Operand) :
    decodeCb (BitVec.ofNat 8 (192 + 8 * bitIndex b + operandNumber x)) = Row.set b x := by
  obtain ⟨named, small⟩ := bitNoOf_bitIndex b
  obtain ⟨q, y, z⟩ := fields_ofNat (n := 192 + 8 * bitIndex b + operandNumber x) (q := 3) rfl (by decide) small
  simp only [decodeCb, q, y, z, named]

/-- Settles O5: under CB_EXT = table an operation of the sub-table after one operand fetch, under CB_EXT = refuse the
refusal before it; the sub-opcode is taken apart by its fields. -/
theorem prefixCbRunsSubOpcode : Obligations.PrefixCbRunsSubOpcode := by
  unfold Obligations.PrefixCbRunsSubOpcode
  refine ⟨rfl, fun s policy => ⟨exec_prefixCb_table s policy, ?fetch, ?completes⟩,
    fun s policy => ⟨exec_prefixCb_refuse s policy, fetchInstr_refuse s policy, step_prefixCb_refuse policy⟩,
    decodeCb_shift, decodeCb_bit, decodeCb_res, decodeCb_set⟩
  case fetch => exact fetchInstr_count s 0xCB fun refuse => nomatch policy.symm.trans refuse
  case completes =>
    rw [exec_prefixCb_table s policy]
    exact exec_decodeCb_keeps_pc_sp (operandByte s) (afterOperand s)

/-! ## The fetch under the HALT bug (R369) -/

/-- The state in which a step under the HALT bug invokes the handler: the opcode byte is read, pc stays at it and
halt_bug is clear. -/
def heldBackOpcode (s : State) : State :=
  { s with
    fetchedAt := s.pc, haltBug := false, cycles := 0, device := readDevice s.params s.device s.pc,
    bus := checkReads s ++ [.read s.pc (s.peek s.pc)] }

/-- The operand bytes are read from the opcode's own address on. -/
theorem readsFrom_heldBackOpcode (s : State) (n : Nat) :
    readsFrom (heldBackOpcode s) s.pc n = readsFrom (s.afterRead s.pc) s.pc n ∧
    bytesFrom (heldBackOpcode s) s.pc n = bytesFrom (s.afterRead s.pc) s.pc n :=
  readsFrom_congr (s.afterRead s.pc) (heldBackOpcode s) rfl rfl rfl s.pc n

/-- The fetch of the opcode byte and then of `n` operand bytes moves pc by `n` only. -/
theorem afterFetches_heldBackOpcode (s : State) (n : Nat) :
    afterFetches (heldBackOpcode s) n =
      { s with
        fetchedAt := s.pc, haltBug := false, cycles := 0, pc := s.pc + BitVec.ofNat 16 n,
        device := deviceAfter s.params s.device
          (.read s.pc (s.peek s.pc) :: readsFrom (s.afterRead s.pc) s.pc n),
        bus := checkReads s ++ .read s.pc (s.peek s.pc) :: readsFrom (s.afterRead s.pc) s.pc n } := by
  have operands : readsFrom (heldBackOpcode s) (heldBackOpcode s).pc n = readsFrom (s.afterRead s.pc) s.pc n :=
    (readsFrom_heldBackOpcode s n).1
  rw [afterFetches, operands]
  simp [heldBackOpcode, deviceAfter]

/-- A step under the HALT bug runs the instruction that the opcode byte and the bytes from its own address on decode
to. -/
theorem step_heldBack_decoded {s : State} {i : Instr} {rest : List Byte} (full : s.params.profile = .full)
    (bug : s.haltBug = true) (runs : RunsNext s) (cb : s.params.cbExt = .refuse → s.peek s.pc ≠ 0xCB)
    (decoded : decode (s.peek s.pc :: bytesFrom (s.afterRead s.pc) s.pc 2) = .ok (i, rest)) :
    step s = finishStep s (exec i (afterFetches (heldBackOpcode s) (2 - rest.length))) := by
  have gate : (heldBackOpcode s).params.profile = .core → isTierT2 (s.peek s.pc) = false := fun core =>
    nomatch full.symm.trans core
  rw [← (readsFrom_heldBackOpcode s 2).2] at decoded
  rw [← execOpcode_decoded (s := heldBackOpcode s) gate cb decoded]
  exact step_runs_heldBack s full runs bug

/-- Settles O11: the step ends as its instruction does; only UNDEFINED faults, with halt_bug as before the step. -/
theorem haltBugFetchHoldsPc : Obligations.HaltBugFetchHoldsPc := by
  unfold Obligations.HaltBugFetchHoldsPc
  intro s i rest full bug runs cb fetched decoded k reads ready
  have stepped : step s = finishStep s (exec i ready) := by
    rw [step_heldBack_decoded full bug runs cb decoded, afterFetches_heldBackOpcode]
  obtain ⟨next, fault, refused⟩ := finishStep_exec s ready i rfl
  refine ⟨fun t h => stepped.trans (next t h), fun op a t h => ?faults, fun r h => stepped.trans (refused r h)⟩
  case faults =>
    obtain ⟨_, undef, carried⟩ := exec_fault h
    cases carried
    rw [stepped, fault op undef, ← bug]

end Sys2Proof.Proofs
end

section
/-! The family `49_supp_cb.md`: the CB sub-table. -/

namespace Sys2Proof.Proofs

open Sys2Proof.Machine Sys2Proof.Laws

/-! ## The rotates and shifts (R391 to R406) -/

theorem encode_shift (op : ShiftOp) (x : Operand) :
    encode (Row.shift op x) = [0xCB, BitVec.ofNat 8 (8 * shiftNumber op + operandNumber x)] := by
  rcases op with (_ | _) | _ <;> rcases x with (_ | _) | _ <;> rfl

/-- A rotate or shift is the operand read and written back, with Z computed and C the bit shifted out (R155). -/
theorem exec_shift_eq (op : ShiftOp) (x : Operand) (s : State) :
    exec (Row.shift op x) s = .next (rewriteOperand s x (shiftValue op (operandValue s x) s.flags.c).1
      { z := (shiftValue op (operandValue s x) s.flags.c).1 == 0, n := false, h := false,
        c := (shiftValue op (operandValue s x) s.flags.c).2 } (s.count (.shift op x))) :=
  (exec_shift op x s).trans (shift_eq s op x)

/-- A register written back holds the value whatever the form of memory. -/
theorem rewriteOperand_reg (s : State) (r : Reg) (v : Byte) (f : Flags) (n : Nat) :
    (rewriteOperand s (.reg r) v f n).reg r = v := by
  simp [rewriteOperand, State.writeOperand]

/-- Settles O57: the operand is a register, which takes no access. -/
theorem cbShiftRegResults : Obligations.CbShiftRegResults := by
  unfold Obligations.CbShiftRegResults
  exact ⟨fun op r => encode_shift op (.reg r),
    fun op r s => ⟨_, exec_shift_eq op (.reg r) s, rewriteOperand_reg s r _ _ _, rewriteOperand_kept s (.reg r) _ _ _,
      rewriteOperand_ends s (.reg r) _ _ _⟩,
    fun _ _ => rfl⟩

/-- Settles O58: the operand is the byte at HL, which takes one read and one write; the flags are of the value written,
not of what the region keeps. -/
theorem cbShiftIndHLResults : Obligations.CbShiftIndHLResults := by
  unfold Obligations.CbShiftIndHLResults
  exact ⟨fun op => encode_shift op .indHL,
    fun op s wf => ⟨_, exec_shift_eq op .indHL s, rewriteOperand_holds .indHL _ _ _ wf,
      rewriteOperand_kept s .indHL _ _ _, rewriteOperand_ends s .indHL _ _ _⟩,
    fun _ => rfl⟩

/-! ## BIT, RES, SET (R407 to R412) -/

theorem encode_bit (b : BitNo) (x : Operand) :
    encode (Row.bit b x) = [0xCB, BitVec.ofNat 8 (0x40 + 8 * bitIndex b + operandNumber x)] := by
  cases b <;> rcases x with (_ | _) | _ <;> rfl

theorem encode_res (b : BitNo) (x : Operand) :
    encode (Row.res b x) = [0xCB, BitVec.ofNat 8 (0x80 + 8 * bitIndex b + operandNumber x)] := by
  cases b <;> rcases x with (_ | _) | _ <;> rfl

theorem encode_set (b : BitNo) (x : Operand) :
    encode (Row.set b x) = [0xCB, BitVec.ofNat 8 (0xC0 + 8 * bitIndex b + operandNumber x)] := by
  cases b <;> rcases x with (_ | _) | _ <;> rfl

/-- BIT reads the operand and writes flags (R156). -/
theorem exec_bit_eq (b : BitNo) (x : Operand) (s : State) :
    exec (Row.bit b x) s = .next (((s.readOperand x).2.setFlags
      { z := !(operandValue s x).getLsbD (bitIndex b), n := false, h := true, c := s.flags.c }).report
      (s.count (.bit b x))) :=
  (exec_bit b x s).trans (bitTest_eq s b x)

theorem testOperand_kept (s : State) (x : Operand) (f : Flags) (n : Nat) :
    Kept s (((s.readOperand x).2.setFlags f).report n) [] [] :=
  (((Kept.refl s).readOperand x).setFlags f).report n

theorem testOperand_ends (s : State) (x : Operand) (f : Flags) (n : Nat) :
    Ends s (((s.readOperand x).2.setFlags f).report n) f s.sp s.pc (operandReads s x) n := by
  simp [Ends]

/-- An operand rewritten with the flags as they were is one read and one write. -/
theorem rewriteOperand_own_flags (s : State) (x : Operand) (v : Byte) (n : Nat) :
    rewriteOperand s x v s.flags n = ((s.readOperand x).2.writeOperand x v).report n := by
  have flags : ((s.readOperand x).2.writeOperand x v).flags = s.flags := by simp
  rw [rewriteOperand, ← flags]
  rfl

theorem exec_res_eq (b : BitNo) (x : Operand) (s : State) :
    exec (Row.res b x) s = .next (rewriteOperand s x (operandValue s x &&& ~~~ (1#8 <<< bitIndex b)) s.flags
      (s.count (.res b x))) := by
  rw [exec_res, bitRes_eq, res8_eq, rewriteOperand_own_flags]

theorem exec_set_eq (b : BitNo) (x : Operand) (s : State) :
    exec (Row.set b x) s = .next (rewriteOperand s x (operandValue s x ||| (1#8 <<< bitIndex b)) s.flags
      (s.count (.set b x))) := by
  rw [exec_set, bitSet_eq, set8_eq, rewriteOperand_own_flags]

/-- Settles O59: BIT reads the operand and writes flags; RES and SET rewrite it with the flags as they were. -/
theorem cbBitsResults : Obligations.CbBitsResults := by
  unfold Obligations.CbBitsResults
  exact ⟨fun b x => ⟨encode_bit b x, encode_res b x, encode_set b x⟩,
    fun b x s => ⟨_, exec_bit_eq b x s, testOperand_kept s x _ _, testOperand_ends s x _ _⟩,
    fun b x s wf => ⟨_, exec_res_eq b x s, rewriteOperand_holds x _ _ _ wf, rewriteOperand_kept s x _ _ _,
      rewriteOperand_ends s x _ _ _⟩,
    fun b x s wf => ⟨_, exec_set_eq b x s, rewriteOperand_holds x _ _ _ wf, rewriteOperand_kept s x _ _ _,
      rewriteOperand_ends s x _ _ _⟩,
    fun _ _ => ⟨rfl, rfl, rfl⟩, fun _ => ⟨rfl, rfl, rfl⟩⟩

end Sys2Proof.Proofs
end

section
/-! The family `60_exceptions.md`: interrupt entry, the delayed effect of EI, the writers of IME, and the idle steps. -/

namespace Sys2Proof.Proofs

open Sys2Proof.Machine Sys2Proof.Laws

/-! ## Idle steps (R443 points 1 and 3, R480) -/

/-- A halted core with no enabled request pending, or one that samples none, is idle. -/
theorem step_idleHalted {s : State} (full : s.params.profile = .full) (notStopped : s.stopped = false)
    (halted : s.halted = true) (noRequest : s.params.irq = .canonical → pendingRequests s = 0) :
    step s = .next (s.checked.report (s.count .idleHalted)) := by
  unfold step
  cases irq : s.params.irq with
  | none => rw [prepare_noIrq s full irq notStopped, if_pos halted]; rfl
  | canonical =>
    have asleep : (s.halted && pendingRequests s == 0) = s.halted := by
      rw [noRequest irq, beq_self_eq_true, Bool.and_true]
    rw [prepare_canonical s full irq notStopped, if_neg fun enters => enters.2 (noRequest irq)]
    simp only [asleep]
    rw [if_pos halted]
    rfl

/-- Entries that do not name the form count nothing. -/
theorem countIn_append {before : List (CycleForm × Nat)} {f : CycleForm} (unlisted : ∀ e ∈ before, e.1 ≠ f)
    (rest : List (CycleForm × Nat)) : countIn (before ++ rest) f = countIn rest f := by
  induction before with
  | nil => rfl
  | cons e before ih =>
    obtain ⟨other, unlisted⟩ := List.forall_mem_cons.mp unlisted
    rw [List.cons_append, countIn_cons_other other, ih unlisted]

/-- A form no entry of the list names has the default count. -/
theorem countIn_of_unlisted {l : List (CycleForm × Nat)} {f : CycleForm} (unlisted : ∀ e ∈ l, e.1 ≠ f) :
    countIn l f = defaultCount f := by
  rw [← List.append_nil l, countIn_append unlisted, countIn_nil]

/-- Settles O7: the two idle steps by the interrupt check, the counts by induction on the list of CYCLES. -/
theorem idleStepsChangeNothing : Obligations.IdleStepsChangeNothing := by
  unfold Obligations.IdleStepsChangeNothing
  refine ⟨fun s => step_stopped, fun s => step_idleHalted, rfl, rfl, fun s f => countIn_of_unlisted,
    fun s f n before rest listed unlisted => ?_⟩
  rw [State.count, listed, countIn_append unlisted, countIn_cons_self]

/-! ## Waking from HALT (R368, R443 point 2) -/

/-- The state in which a core that the interrupt check has woken runs an instruction or enters an interrupt. -/
def wokenState (s : State) : State := { s.checked with halted := false }

/-- An enabled request pending clears the halted bit (R443 point 2). -/
theorem halted_of_pending {s : State} (pending : pendingRequests s ≠ 0) :
    (s.halted && pendingRequests s == 0) = false := by
  rw [beq_eq_false_iff_ne.mpr pending, Bool.and_false]

/-- With IME clear, a request pending makes a halted core run as if it were not halted. -/
theorem prepare_wakes {s : State} (full : s.params.profile = .full) (irq : s.params.irq = .canonical)
    (notStopped : s.stopped = false) (ime : s.ime = false) (pending : pendingRequests s ≠ 0) :
    prepare s.beginStep = .run (wokenState s) := by
  have noEntry : ¬(s.ime = true ∧ pendingRequests s ≠ 0) := by simp [ime]
  rw [prepare_canonical s full irq notStopped, if_neg noEntry]
  simp only [halted_of_pending pending]
  rfl

/-- How a step ends depends on the halted bit before it in the state of a fault only. -/
theorem finishStep_halted (s : State) (r : Result) :
    (∀ t, finishStep { s with halted := false } r = .next t → finishStep s r = .next t) ∧
    (∀ q, finishStep { s with halted := false } r = .refused q → finishStep s r = .refused q) ∧
    (∀ op a t, finishStep { s with halted := false } r = .fault (.undefinedOpcode op a t) →
      finishStep s r = .fault (.undefinedOpcode op a { t with halted := s.halted })) := by
  cases r with
  | next u => simp [finishStep]
  | refused q => simp [finishStep]
  | fault f =>
    cases f
    simp only [finishStep, reduceCtorEq, false_implies, implies_true, true_and, Host.Outcome.fault.injEq,
      Fault.undefinedOpcode.injEq]
    rintro op a t ⟨rfl, rfl, rfl⟩
    exact ⟨rfl, rfl, rfl⟩

/-- Settles O8: the step and that of the state not halted run the same instruction from the same state. -/
theorem wakeFromHaltRunsNext : Obligations.WakeFromHaltRunsNext := by
  unfold Obligations.WakeFromHaltRunsNext
  intro s full irq notStopped halted ime pending
  have woken : step s = finishStep s (runInstruction (wokenState s)) := by
    rw [step, prepare_wakes full irq notStopped ime pending]
  have awake : step { s with halted := false } =
      finishStep { s with halted := false } (runInstruction (wokenState s)) := by
    rw [step, prepare_wakes (s := { s with halted := false }) full irq notStopped ime pending]
    rfl
  rw [woken, awake, ← halted]
  exact finishStep_halted s _

/-! ## Interrupt entry (R442, R444) -/

/-- The lowest bit set is the source entered. -/
theorem lowestPending_eq {p : Byte} {k : Nat} (source : k < 5) (set : p.getLsbD k = true)
    (lowest : ∀ j, j < k → p.getLsbD j = false) : lowestPending p = k := by
  have clear : ∀ j, j < k → ¬p.getLsbD j = true := fun j below => Bool.eq_false_iff.mp (lowest j below)
  match k with
  | 0 => rw [lowestPending, if_pos set]
  | 1 => rw [lowestPending, if_neg (clear 0 (by decide)), if_pos set]
  | 2 => rw [lowestPending, if_neg (clear 0 (by decide)), if_neg (clear 1 (by decide)), if_pos set]
  | 3 =>
    rw [lowestPending, if_neg (clear 0 (by decide)), if_neg (clear 1 (by decide)), if_neg (clear 2 (by decide)),
      if_pos set]
  | 4 =>
    rw [lowestPending, if_neg (clear 0 (by decide)), if_neg (clear 1 (by decide)), if_neg (clear 2 (by decide)),
      if_neg (clear 3 (by decide))]

/-- With IME set and a request pending, the step enters the interrupt, whether or not the core was halted. -/
theorem step_interrupt {s : State} (full : s.params.profile = .full) (irq : s.params.irq = .canonical)
    (notStopped : s.stopped = false) (ime : s.ime = true) (pending : pendingRequests s ≠ 0) :
    step s = .next ((wokenState s).interruptEntry (pendingRequests s) (s.peek 0xFF0F)) := by
  rw [step, prepare_canonical s full irq notStopped, if_pos ⟨ime, pending⟩]
  simp only [halted_of_pending pending]
  rfl

/-- The mask that clears the request bit of source `k`, and the address the source is entered at (R442). -/
theorem source_mask_vector : ∀ k, k < 5 →
    wrap8 (255 - (2 ^ k : Nat)) = BitVec.ofNat 8 (255 - 2 ^ k) ∧
    wrap16 (0x0040 + 8 * k : Nat) = BitVec.ofNat 16 (0x0040 + 8 * k) := by
  decide

/-- The request byte with the bit of source `k` cleared (R442). -/
def clearRequest (iff : Byte) (k : Nat) : Byte := iff &&& BitVec.ofNat 8 (255 - 2 ^ k)

/-- Interrupt entry for source `k`: pc pushed, its request bit cleared in IF, then the jump to its address. -/
theorem interruptEntry_eq (s : State) {pending : Byte} {k : Nat} (source : k < 5) (lowest : lowestPending pending = k)
    (iff : Byte) :
    s.interruptEntry pending iff =
      (((({ s with ime := false, eiDelay := false } : State).push16 s.pc).busWrite 0xFF0F (clearRequest iff k)).jump
        (BitVec.ofNat 16 (0x0040 + 8 * k))).report (s.count .interruptEntry) := by
  obtain ⟨mask, vector⟩ := source_mask_vector k source
  rw [clearRequest, ← mask, ← vector, ← lowest]
  rfl

theorem interruptEntry_ends (s : State) {pending : Byte} {k : Nat} (source : k < 5)
    (lowest : lowestPending pending = k) (iff : Byte) :
    Ends s (s.interruptEntry pending iff) s.flags (s.sp - 2) (BitVec.ofNat 16 (0x0040 + 8 * k))
      [.write (s.sp - 1) (hiByte s.pc), .write (s.sp - 2) (loByte s.pc), .write 0xFF0F (clearRequest iff k)]
      (s.count .interruptEntry) := by
  rw [interruptEntry_eq s source lowest]
  simp [Ends]

theorem interruptEntry_mem (s : State) {pending : Byte} {k : Nat} (source : k < 5)
    (lowest : lowestPending pending = k) (iff : Byte) :
    (s.interruptEntry pending iff).mem =
      (((s.store (s.sp - 1) (hiByte s.pc)).store (s.sp - 2) (loByte s.pc)).store 0xFF0F (clearRequest iff k)).mem := by
  rw [interruptEntry_eq s source lowest]
  exact State.mem_store_congr _ _ _ _ (State.push16_mem _ _) (by simp)

theorem interruptEntry_regs (s : State) (pending iff : Byte) : (s.interruptEntry pending iff).regs = s.regs := by
  simp [State.interruptEntry]

/-- Interrupt entry leaves every byte but those of its three writes. -/
theorem interruptEntry_kept (s : State) (pending iff : Byte) :
    Kept { s with ime := false, eiDelay := false } (s.interruptEntry pending iff) []
      [s.sp - 1, s.sp - 2, 0xFF0F] :=
  ((((Kept.refl _).push16 (by simp) (by simp) _).busWrite (by simp [addrIF]) _).jump _).report _

/-- The reads of the interrupt check leave the collaborator's state alone (R441). -/
theorem deviceAfter_checkReads (s : State) : deviceAfter s.params s.device (checkReads s) = s.device := by
  unfold checkReads
  split
  next sampled =>
    obtain ⟨ie, iff⟩ := readDevice_request s.params s.device sampled.2
    calc readDevice s.params (readDevice s.params s.device addrIE) addrIF
      _ = readDevice s.params s.device addrIF := by rw [ie]
      _ = s.device := iff
  next => rfl

/-- Settles O9: the step is interrupt entry from the state after the two reads of the check. -/
theorem interruptEntryTakesLowest : Obligations.InterruptEntryTakesLowest := by
  unfold Obligations.InterruptEntryTakesLowest
  refine ⟨fun s k full irq notStopped ime source set below => ?_, rfl⟩
  intro request
  have pending : pendingRequests s ≠ 0 := by
    intro noRequest
    simp [noRequest] at set
  have lowest : lowestPending (pendingRequests s) = k := lowestPending_eq source set below
  have quiet := interruptEntry_quiet (wokenState s) (pendingRequests s) (s.peek 0xFF0F)
  obtain ⟨flags, sp, pc, bus, device, cycles⟩ := interruptEntry_ends (wokenState s) source lowest (s.peek 0xFF0F)
  obtain ⟨-, peek, -⟩ := interruptEntry_kept (wokenState s) (pendingRequests s) (s.peek 0xFF0F)
  have reads : checkReads s = [.read 0xFFFF (s.peek 0xFFFF), .read 0xFF0F (s.peek 0xFF0F)] := if_pos ⟨full, irq⟩
  refine ⟨_, step_interrupt full irq notStopped ime pending, pc, sp, ?mem, peek, quiet.ime, quiet.eiDelay, quiet.halted,
    quiet.stopped, quiet.haltBug, ?regs, flags, quiet.params, quiet.fetchedAt, cycles, ?bus, ?device⟩
  case mem => exact interruptEntry_mem (wokenState s) source lowest _
  case regs => exact interruptEntry_regs (wokenState s) _ _
  case bus => rw [bus]; exact congrArg (· ++ _) reads
  case device =>
    rw [device, bus, deviceAfter_append]
    exact congrArg (deviceAfter s.params · _) (deviceAfter_checkReads s).symm

/-! ## The writes of IME (R372, R446, R447) -/

/-- The opcode byte 0xF3 is DI, with no operand byte. -/
theorem fetchInstr_di (s : State) : fetchInstr 0xF3 s = (.di, s) := rfl

/-- The opcode byte is the first byte of the encoding of the instruction fetched. -/
theorem opcode_of_fetchInstr {op : Byte} {s : State} {i : Instr} (fetched : (fetchInstr op s).1 = i) :
    op = (encode i).headD 0 := by
  rw [← fetched, encode_headD (fetchInstr_head op s)]

/-- What an instruction does to IME: nothing, unless it is DI or RETI (R447). -/
theorem exec_ime {i : Instr} {s t : State} (h : exec i s = .next t) :
    t.ime = s.ime ∨ (i = .di ∧ t.ime = false) ∨ (i = .reti ∧ t.ime = true) := by
  obtain quiet | ⟨-, _, _, rfl⟩ | ⟨-, -, -, _, _, rfl⟩ | ⟨-, -, _, rfl⟩ | ⟨di, _, rfl⟩ | ⟨-, _, rfl⟩ |
    ⟨reti, _, _, _, _, _, rfl⟩ := exec_cases h
  case inl => exact .inl quiet.ime
  case inr.inr.inr.inr.inl => exact .inr (.inl ⟨di, rfl⟩)
  case inr.inr.inr.inr.inr.inr => exact .inr (.inr ⟨reti, rfl⟩)
  all_goals exact .inl rfl

/-- An EI still to take effect stays so, unless DI drops it, or RETI, which sets IME itself (R340, R371). -/
theorem exec_eiDelay {i : Instr} {s t : State} (h : exec i s = .next t) (notDi : i ≠ .di) (delayed : s.eiDelay = true) :
    t.eiDelay = true ∨ (t.eiDelay = false ∧ t.ime = true) := by
  obtain quiet | ⟨-, _, _, rfl⟩ | ⟨-, -, -, _, _, rfl⟩ | ⟨-, -, _, rfl⟩ | ⟨di, _, rfl⟩ | ⟨-, _, rfl⟩ |
    ⟨-, _, _, _, _, _, rfl⟩ := exec_cases h
  case inl => exact .inl (quiet.eiDelay.trans delayed)
  case inr.inr.inr.inr.inl => exact absurd di notDi
  case inr.inr.inr.inr.inr.inl => exact .inl rfl
  case inr.inr.inr.inr.inr.inr => exact .inr ⟨rfl, rfl⟩
  all_goals exact .inl delayed

/-- The fetches of a step leave IME and ei_delay. -/
theorem fetched_interruptBits (s : State) (op : Byte) :
    (fetchInstr op (readyToRun s).fetchOpcode.2).2.ime = s.ime ∧
    (fetchInstr op (readyToRun s).fetchOpcode.2).2.eiDelay = s.eiDelay := by
  obtain ⟨pc, device, bus, fetched⟩ := fetched_state op (readyToRun s)
  rw [fetched]
  exact ⟨rfl, rfl⟩

/-- What the instruction of a completed step was: the one its opcode byte names, and then the delayed effect of EI. -/
theorem ran_instruction {s t : State} (ran : finishStep s (runInstruction (readyToRun s)) = .next t) :
    ∃ u, exec (fetchInstr (s.peek s.pc) (readyToRun s).fetchOpcode.2).1
        (fetchInstr (s.peek s.pc) (readyToRun s).fetchOpcode.2).2 = .next u ∧
      t = afterInstruction s u := by
  obtain ⟨-, u, executed, rfl⟩ := runInstruction_cases ran
  have params : u.params = s.params := (exec_params executed).trans (fetched_params s _)
  exact ⟨u, executed, by rw [afterInstruction, params]⟩

/-- Settles O10: DI drops the EI, RETI sets IME itself, and after every other instruction the step sets it. -/
theorem eiTakesEffectOneInstructionLate : Obligations.EiTakesEffectOneInstructionLate := by
  unfold Obligations.EiTakesEffectOneInstructionLate
  intro s t full delayed runs stepped
  have ready : readyToRun s = s.checked := by
    obtain ⟨-, halted, -⟩ := runs
    simp [readyToRun, State.checked, halted]
  rw [step_runs s runs, ← ready] at stepped
  obtain ⟨u, executed, rfl⟩ := ran_instruction stepped
  by_cases di : s.peek s.pc = 0xF3
  · rw [di, fetchInstr_di] at executed
    cases executed
    simp [afterInstruction, di]
  · have notDi : (fetchInstr (s.peek s.pc) (readyToRun s).fetchOpcode.2).1 ≠ .di :=
      fun fetched => di (opcode_of_fetchInstr fetched)
    rw [decide_eq_false di, afterInstruction]
    obtain pending | ⟨dropped, ime⟩ := exec_eiDelay executed notDi ((fetched_interruptBits s _).2.trans delayed)
    · rw [if_pos ⟨full, delayed, pending⟩]
      exact ⟨rfl, rfl⟩
    · rw [if_neg (by simp [dropped])]
      exact ⟨dropped, ime⟩

/-- What a step does to IME (R446, R447). -/
theorem step_ime {s t : State} (stepped : step s = .next t) :
    t.ime = s.ime ∨ (t.ime = true ∧ (s.eiDelay = true ∨ s.peek s.pc = 0xD9)) ∨
    (t.ime = false ∧ (s.peek s.pc = 0xF3 ∨ (s.params.irq = .canonical ∧ pendingRequests s ≠ 0))) := by
  obtain ⟨-, -, rfl⟩ | ⟨-, -, -, rfl⟩ | ⟨-, irq, -, -, pending, rfl⟩ | ⟨-, ran⟩ := step_cases stepped
  case inl => exact .inl rfl
  case inr.inl => exact .inl rfl
  case inr.inr.inl => exact .inr (.inr ⟨(interruptEntry_quiet _ _ _).ime, .inr ⟨irq, pending⟩⟩)
  case inr.inr.inr =>
    obtain ⟨u, executed, rfl⟩ := ran_instruction ran
    unfold afterInstruction
    split
    next effect =>
      obtain ⟨-, delayed, -⟩ := effect
      exact .inr (.inl ⟨rfl, .inl delayed⟩)
    next =>
      obtain same | ⟨di, clear⟩ | ⟨reti, set⟩ := exec_ime executed
      · exact .inl (same.trans (fetched_interruptBits s _).1)
      · exact .inr (.inr ⟨clear, .inl (opcode_of_fetchInstr di)⟩)
      · exact .inr (.inl ⟨set, .inr (opcode_of_fetchInstr reti)⟩)

/-- Settles O17: what an instruction and what a step does to IME, read in each direction. -/
theorem imeWriters : Obligations.ImeWriters := by
  unfold Obligations.ImeWriters
  refine ⟨fun i s t executed changed => (exec_ime executed).resolve_left changed, fun s t stepped was is => ?sets,
    fun s t stepped was is => ?clears⟩
  case sets =>
    obtain same | ⟨-, setter⟩ | ⟨clear, -⟩ := step_ime stepped
    · simp [was, is] at same
    · exact setter
    · simp [is] at clear
  case clears =>
    obtain same | ⟨set, -⟩ | ⟨-, clearer⟩ := step_ime stepped
    · simp [was, is] at same
    · simp [is] at set
    · exact clearer

end Sys2Proof.Proofs
end

section
/-! The family `70_reset_and_hazards.md`: construction from INIT and the reset state. -/

namespace Sys2Proof.Proofs

open Sys2Proof.Machine

/-- Settles O20: each field is set from its INIT value, or clear, by the definition of the construction. -/
theorem powerOnFromInit : Obligations.PowerOnFromInit := by
  unfold Obligations.PowerOnFromInit
  intro init params image device
  exact ⟨rfl, rfl, rfl, rfl, rfl, rfl, rfl, rfl, rfl, rfl, rfl, rfl, rfl, rfl, rfl, rfl, rfl, rfl⟩

/-- Settles O21: the reset state is constructed from the default INIT. -/
theorem resetRegistersAreDefaultInit : Obligations.ResetRegistersAreDefaultInit := by
  unfold Obligations.ResetRegistersAreDefaultInit
  exact ⟨rfl, rfl, rfl, rfl, rfl, rfl, rfl, rfl, rfl, rfl⟩

end Sys2Proof.Proofs
end
